-- ==== Sys2Proof/Word.lean ====
section
/-! DEFINITION. The bit-vector types of the block: bytes, words, binary32 patterns, the 72-bit operand and the
48-bit result (spec/10_state.md R13, R16; spec/00_scope.md section 5). -/

namespace Sys2Proof

/-- A byte, unsigned (R130). -/
abbrev Byte := BitVec 8

/-- A 16-bit unsigned word, the sensor's unit (R3 `WORD_WIDTH`). -/
abbrev Word := BitVec 16

/-- A binary32 pattern: bit 31 sign, bits 30:23 biased exponent, bits 22:0 fraction (R106). -/
abbrev F32 := BitVec 32

/-- The operand input `ARG`: nine bytes `D[0]` to `D[8]`, `D[0]` the most significant (R40). -/
abbrev Arg := BitVec 72

/-- The result register's type, `RES` (R13). -/
abbrev Result := BitVec 48

end Sys2Proof
end

