-- ==== Sys2Proof/Machine/Operands.lean ====
section
/-! DEFINITION. Numbers in and out: reading and writing binary32 patterns, the exact arithmetic between them, and
the result layouts of `RES` (spec/41_conv_from_word.md R87; spec/42_conv_to_word.md R100, R103, R106;
spec/30_encoding.md R43). The operand formats are in Decode.lean.

SCALED INTEGERS. Every finite binary32 value is an integer multiple of 2^-149 (R106), so a real is held here as the
integer `n` that stands for `n * 2^-149`, and no arithmetic below is inexact. DEDUCED (log 6), safe. -/

namespace Sys2Proof
namespace Machine

/-! ### Reading a binary32 operand (R106) -/

/-- What a binary32 pattern stands for. The two zeros are one value, since a result depends only on the real number
(R131). -/
inductive F32Value where
  | nan
  | infinity (negative : Bool)
  /-- the real `n * 2^-149` -/
  | finite (n : Int)
  deriving DecidableEq, Repr

/-- The biased exponent field, bits 30:23. -/
def expField (x : F32) : Nat := (x.extractLsb' 23 8).toNat

/-- The fraction field, bits 22:0. -/
def fracField (x : F32) : Nat := (x.extractLsb' 0 23).toNat

/-- The sign, bit 31, applied to a magnitude. -/
def signed (x : F32) (m : Nat) : Int := if x.getLsbD 31 then -(m : Int) else (m : Int)

/-- The magnitude of a finite pattern in units of 2^-149: `f` for a zero or a subnormal, `(2^23 + f) * 2^(e-1)`
otherwise. -/
def scaledMagnitude (x : F32) : Nat :=
  if expField x = 0 then fracField x else (2 ^ 23 + fracField x) * 2 ^ (expField x - 1)

/-- R106: every one of the 2^32 patterns is read. -/
def readF32 (x : F32) : F32Value :=
  if expField x = 255 then
    if fracField x = 0 then .infinity (x.getLsbD 31) else .nan
  else .finite (signed x (scaledMagnitude x))

/-! ### Rounding -/

/-- `trunc` (spec/00_scope.md section 5) of the real `n * 2^-149`: its integer part toward zero. -/
def truncScaled (n : Int) : Int := n.tdiv (2 ^ 149)

/-- `round_away` (spec/00_scope.md section 5) of the real `n * 2^-149`: the nearest integer, a half going away from
zero (D15). -/
def roundAwayScaled (n : Int) : Int := n.sign * (((2 * n.natAbs + 2 ^ 149) / 2 ^ 150 : Nat) : Int)

/-- The distance between neighbouring binary32 values around the magnitude `m * 2^-149`, in units of 2^-149: a
significand has 24 bits. -/
def ulpScaled (m : Nat) : Nat := 2 ^ (m.log2 - 23)

/-- The quotient `a / b` rounded to the nearest integer, a half going to the even one. -/
def divNearestEven (a b : Nat) : Nat :=
  if 2 * (a % b) > b ∨ (2 * (a % b) = b ∧ (a / b) % 2 = 1) then a / b + 1 else a / b

/-- `RN32` (D13) of the real `n / d * 2^-149`: the nearest binary32 value, a half going to the even significand;
`none` where the result overflows to an infinity, that is, is 2^128 or more in magnitude. -/
def rn32 (n : Int) (d : Nat) : Option Int :=
  let u := ulpScaled (n.natAbs / d)
  let m := divNearestEven n.natAbs (d * u) * u
  if m < 2 ^ 128 * 2 ^ 149 then some (n.sign * (m : Int)) else none

/-! ### The integer of a quantity-to-word conversion (R100) -/

/-- `r` of CVT.ALT.TOW and CVT.PRES.TOW (R104, R105); `none` for a NaN or an infinity. -/
def truncOperand (x : F32) : Option Int :=
  match readF32 x with
  | .finite c => some (truncScaled c)
  | .infinity _ => none
  | .nan => none

/-- `r` of CVT.TOFF.TOW (R103): `p = RN32(65536 * c)`, `q = RN32(p / 175)`, `r = round_away(q)`; `none` for a NaN or
an infinity, and where the product overflows, which is out of range too (U10). -/
def offsetOperand (x : F32) : Option Int :=
  match readF32 x with
  | .finite c => (rn32 (65536 * c) 1).bind fun p => (rn32 p 175).map roundAwayScaled
  | .infinity _ => none
  | .nan => none

/-- The word of `r` where `0 <= r <= 65535` (R100), else the word the parameter gives (R101). -/
def wordInRange (r : Option Int) (oor : Word) : Word :=
  match r with
  | some n => if 0 ≤ n ∧ n ≤ 65535 then BitVec.ofInt 16 n else oor
  | none => oor

/-! ### Writing a binary32 result (R87) -/

/-- `f32q(n, s)`: the pattern of `n / 2^s` for `|n| < 2^24`, exact. -/
def f32q (n : Int) (s : Nat) : F32 :=
  if n = 0 then 0#32
  else
    let m := n.natAbs
    let k := m.log2
    BitVec.ofBool (decide (n < 0)) ++ BitVec.ofNat 8 (127 + k - s) ++ BitVec.ofNat 23 (m * 2 ^ (23 - k) - 2 ^ 23)

/-! ### Result layouts (R43), all right-justified and zero-extended to 48 bits (R13) -/

/-- `r8`: a checksum in `RES[7:0]`. -/
def layoutR8 (c : Byte) : Result := c.setWidth 48

/-- `r0`: no value. -/
def layoutR0 : Result := 0#48

/-- `rframe`: high byte, low byte, checksum, in wire order. -/
def layoutFrame (hi lo c : Byte) : Result := (hi ++ lo ++ c).setWidth 48

/-- `rw`: a word or an unsigned 16-bit quantity in `RES[15:0]`. -/
def layoutRw (w : Word) : Result := w.setWidth 48

/-- `rw3`: three words in order, the first most significant. -/
def layoutRw3 (w0 w1 w2 : Word) : Result := w0 ++ w1 ++ w2

/-- `ri16`: a two's-complement pattern in `RES[15:0]`, not sign-extended (R133). -/
def layoutRi16 (d : Word) : Result := d.setWidth 48

/-- `rf32`: a binary32 pattern in `RES[31:0]`. -/
def layoutRf32 (x : F32) : Result := x.setWidth 48

/-- `rbool`: `RES[0]`, 1 = true (D28). -/
def layoutRbool (b : Bool) : Result := (BitVec.ofBool b).setWidth 48

/-- `ru48`: an unsigned 48-bit integer, the first word received most significant (R34, R124). -/
def layoutRu48 (w0 w1 w2 : Word) : Result := w0 ++ w1 ++ w2

end Machine
end Sys2Proof
end

