-- ==== Sys2Proof/Syntax.lean ====
section
/-! DEFINITION. Requests, the twenty operations with their typed operands, and what the host can do to the block
(spec/30_encoding.md R40, R42, R44; spec/70_reset_and_hazards.md R161). -/

namespace Sys2Proof

/-- A request: the operation select `OP` and the operand `ARG` (R16, R40). -/
structure Request where
  op : Byte
  arg : Arg
  deriving DecidableEq, Repr

/-- A 3-byte group: payload `b0` (first, high), `b1` (second, low) and the checksum `c` supplied with it
(R42, format `B9`). -/
structure ByteGroup where
  b0 : Byte
  b1 : Byte
  c : Byte
  deriving DecidableEq, Repr

/-- The seven operand formats of R42. -/
inductive Format where
  /-- two payload bytes -/
  | b2
  /-- two payload bytes and a checksum byte -/
  | b3
  /-- three 3-byte groups -/
  | b9
  /-- one word -/
  | w
  /-- three words -/
  | w3
  /-- one binary32 pattern -/
  | f
  /-- one flag -/
  | l
  deriving DecidableEq, Repr

/-- The twenty operations of R44, one constructor per row of spec/opcode_table.json, with the operands of the
row's format. -/
inductive Instr where
  /-- CRC8.COMPUTE (R63) -/
  | crc8Compute (b0 b1 : Byte)
  /-- CRC8.VERIFY (R64) -/
  | crc8Verify (b0 b1 c : Byte)
  /-- WORD.PACK (R65) -/
  | wordPack (w : Word)
  /-- WORD.UNPACK (R66) -/
  | wordUnpack (b0 b1 c : Byte)
  /-- WORD3.UNPACK (R67) -/
  | word3Unpack (g0 g1 g2 : ByteGroup)
  /-- CVT.CO2.FROMW (R81) -/
  | cvtCo2Fromw (w : Word)
  /-- CVT.TEMP.FROMW (R82) -/
  | cvtTempFromw (w : Word)
  /-- CVT.RH.FROMW (R83) -/
  | cvtRhFromw (w : Word)
  /-- CVT.TOFF.FROMW (R84) -/
  | cvtToffFromw (w : Word)
  /-- CVT.ALT.FROMW (R85) -/
  | cvtAltFromw (w : Word)
  /-- CVT.FRC.FROMW (R86) -/
  | cvtFrcFromw (w : Word)
  /-- CVT.CO2.TOW (R102): the operand is an unsigned count of ppm -/
  | cvtCo2Tow (p : Word)
  /-- CVT.TOFF.TOW (R103) -/
  | cvtToffTow (x : F32)
  /-- CVT.ALT.TOW (R104) -/
  | cvtAltTow (x : F32)
  /-- CVT.PRES.TOW (R105) -/
  | cvtPresTow (x : F32)
  /-- DEC.DRDY (R120) -/
  | decDrdy (w : Word)
  /-- DEC.SELFTEST (R121) -/
  | decSelftest (w : Word)
  /-- DEC.ASC (R122) -/
  | decAsc (w : Word)
  /-- ENC.ASC (R123) -/
  | encAsc (e : Bool)
  /-- DEC.SERIAL (R124) -/
  | decSerial (w0 w1 w2 : Word)
  deriving DecidableEq, Repr

/-- The operand format of each operation (R44, third column). -/
def Instr.format : Instr → Format
  | .crc8Compute _ _ => .b2
  | .crc8Verify _ _ _ => .b3
  | .wordPack _ => .w
  | .wordUnpack _ _ _ => .b3
  | .word3Unpack _ _ _ => .b9
  | .cvtCo2Fromw _ => .w
  | .cvtTempFromw _ => .w
  | .cvtRhFromw _ => .w
  | .cvtToffFromw _ => .w
  | .cvtAltFromw _ => .w
  | .cvtFrcFromw _ => .w
  | .cvtCo2Tow _ => .w
  | .cvtToffTow _ => .f
  | .cvtAltTow _ => .f
  | .cvtPresTow _ => .f
  | .decDrdy _ => .w
  | .decSelftest _ => .w
  | .decAsc _ => .w
  | .encAsc _ => .l
  | .decSerial _ _ _ => .w3

/-- The checksum family (R2): the operations that write `CRC` (R11). -/
def Instr.isChecksum : Instr → Bool
  | .crc8Compute _ _ => true
  | .crc8Verify _ _ _ => true
  | .wordPack _ => true
  | .wordUnpack _ _ _ => true
  | .word3Unpack _ _ _ => true
  | .cvtCo2Fromw _ => false
  | .cvtTempFromw _ => false
  | .cvtRhFromw _ => false
  | .cvtToffFromw _ => false
  | .cvtAltFromw _ => false
  | .cvtFrcFromw _ => false
  | .cvtCo2Tow _ => false
  | .cvtToffTow _ => false
  | .cvtAltTow _ => false
  | .cvtPresTow _ => false
  | .decDrdy _ => false
  | .decSelftest _ => false
  | .decAsc _ => false
  | .encAsc _ => false
  | .decSerial _ _ _ => false

/-- What the host can do to the block between steps: present a request (R39), or apply reset (R161). -/
inductive HostInput where
  | request (r : Request)
  | reset
  deriving DecidableEq, Repr

end Sys2Proof
end

