-- ==== Sys2Proof/WellFormed.lean ====
section
/-! DEFINITION. Well-formedness. An operand has exactly the width its format gives it, and no operand value makes
a legal opcode illegal (spec/30_encoding.md R47), so every term of `Instr` is well-formed. What can be ill-formed is
an assembled request: the bits its operation does not read are assembled as zero (R50). -/

namespace Sys2Proof

/-- R47: every pattern of every operand is accepted. The widths stand in the types of `Instr`'s fields. -/
def Instr.wf : Instr → Bool
  | .crc8Compute _ _ => true
  | .crc8Verify _ _ _ => true
  | .wordPack _ => true
  | .wordUnpack _ _ _ => true
  | .word3Unpack _ _ _ => true
  | .cvtCo2Fromw _ => true
  | .cvtTempFromw _ => true
  | .cvtRhFromw _ => true
  | .cvtToffFromw _ => true
  | .cvtAltFromw _ => true
  | .cvtFrcFromw _ => true
  | .cvtCo2Tow _ => true
  | .cvtToffTow _ => true
  | .cvtAltTow _ => true
  | .cvtPresTow _ => true
  | .decDrdy _ => true
  | .decSelftest _ => true
  | .decAsc _ => true
  | .encAsc _ => true
  | .decSerial _ _ _ => true

/-- The bits of `ARG` that each format reads (R42, column "bytes read"; for `L`, bit 0 of `D[0]`). -/
def Format.readMask : Format → Arg
  | .b2 => 0xFFFF00000000000000#72
  | .b3 => 0xFFFFFF000000000000#72
  | .b9 => 0xFFFFFFFFFFFFFFFFFF#72
  | .w => 0xFFFF00000000000000#72
  | .w3 => 0xFFFFFFFFFFFF000000#72
  | .f => 0xFFFFFFFF0000000000#72
  | .l => 0x010000000000000000#72

/-- R50: "Unread bytes of `ARG` are assembled as zero." -/
def Request.assembledAs (fmt : Format) (r : Request) : Bool := r.arg &&& ~~~fmt.readMask == 0#72

end Sys2Proof
end

