-- ==== Sys2Proof/Decode.lean ====
section
/-! DEFINITION. The 80-bit request, the operand formats and the opcode map, read and written
(spec/30_encoding.md R40, R42, R44 to R47, R50; spec/20_memory.md R31, R33). -/

namespace Sys2Proof

/-! ### The request's bits -/

/-- `D[i] = ARG[71-8*i : 64-8*i]` (R40). -/
def argByte (a : Arg) (i : Nat) : Byte := a.extractLsb' (64 - 8 * i) 8

/-- The word `D[i] : D[i+1]`, high byte first (R31). -/
def argWord (a : Arg) (i : Nat) : Word := argByte a i ++ argByte a (i + 1)

/-- The binary32 pattern `D[0] : D[1] : D[2] : D[3]`, sign in `D[0][7]` (R42, format `F`). -/
def argFloat (a : Arg) : F32 := argWord a 0 ++ argWord a 2

/-- ByteGroup `g` of format `B9`: `D[3g]`, `D[3g+1]`, `D[3g+2]` (R42). -/
def argGroup (a : Arg) (g : Nat) : ByteGroup :=
  { b0 := argByte a (3 * g), b1 := argByte a (3 * g + 1), c := argByte a (3 * g + 2) }

/-- The flag of format `L`: bit 0 of `D[0]`, bits 7:1 ignored (R42, D19). -/
def argFlag (a : Arg) : Bool := (argByte a 0).getLsbD 0

/-- `REQ[79:72] = OP`, `REQ[71:0] = ARG` (R40). -/
def requestOfBits (q : BitVec 80) : Request := { op := q.extractLsb' 72 8, arg := q.extractLsb' 0 72 }

/-- `REQ = OP : ARG` (R40). -/
def requestBits (r : Request) : BitVec 80 := r.op ++ r.arg

/-! ### Decoding -/

/-- Why bytes are no operation of the block. -/
inductive DecodeError where
  /-- `OP` is not one of the 20 values of R44 (R46); the block answers ILLEGAL_OP -/
  | illegalOp (op : Byte)
  /-- not ten bytes: there is one length and one outer format (R40); the block is never given such a thing -/
  | notTenBytes (n : Nat)
  deriving DecidableEq, Repr

/-- Decoding, total and chosen by all eight bits of `OP` alone (R41, R44, R46, R47). -/
def decode (r : Request) : Except DecodeError Instr :=
  match r.op with
  | 0x01#8 => .ok (.crc8Compute (argByte r.arg 0) (argByte r.arg 1))
  | 0x02#8 => .ok (.crc8Verify (argByte r.arg 0) (argByte r.arg 1) (argByte r.arg 2))
  | 0x03#8 => .ok (.wordPack (argWord r.arg 0))
  | 0x04#8 => .ok (.wordUnpack (argByte r.arg 0) (argByte r.arg 1) (argByte r.arg 2))
  | 0x05#8 => .ok (.word3Unpack (argGroup r.arg 0) (argGroup r.arg 1) (argGroup r.arg 2))
  | 0x10#8 => .ok (.cvtCo2Fromw (argWord r.arg 0))
  | 0x11#8 => .ok (.cvtTempFromw (argWord r.arg 0))
  | 0x12#8 => .ok (.cvtRhFromw (argWord r.arg 0))
  | 0x13#8 => .ok (.cvtToffFromw (argWord r.arg 0))
  | 0x14#8 => .ok (.cvtAltFromw (argWord r.arg 0))
  | 0x15#8 => .ok (.cvtFrcFromw (argWord r.arg 0))
  | 0x20#8 => .ok (.cvtCo2Tow (argWord r.arg 0))
  | 0x23#8 => .ok (.cvtToffTow (argFloat r.arg))
  | 0x24#8 => .ok (.cvtAltTow (argFloat r.arg))
  | 0x26#8 => .ok (.cvtPresTow (argFloat r.arg))
  | 0x30#8 => .ok (.decDrdy (argWord r.arg 0))
  | 0x31#8 => .ok (.decSelftest (argWord r.arg 0))
  | 0x32#8 => .ok (.decAsc (argWord r.arg 0))
  | 0x33#8 => .ok (.encAsc (argFlag r.arg))
  | 0x34#8 => .ok (.decSerial (argWord r.arg 0) (argWord r.arg 2) (argWord r.arg 4))
  | op => .error (.illegalOp op)

/-- A request written as its ten bytes `OP D0 D1 ... D8` (R40). -/
def requestOfBytes : List Byte → Except DecodeError Request
  | [op, d0, d1, d2, d3, d4, d5, d6, d7, d8] =>
    .ok { op := op, arg := d0 ++ d1 ++ d2 ++ d3 ++ d4 ++ d5 ++ d6 ++ d7 ++ d8 }
  | bs => .error (.notTenBytes bs.length)

/-- Decoding of any bytes: ten bytes are a request (R40), any other number is refused by name. -/
def decodeBytes (bs : List Byte) : Except DecodeError Instr :=
  match requestOfBytes bs with
  | .ok r => decode r
  | .error e => .error e

/-- The operation in the low `nbits` bits of `w`, numbered as spec/opcode_table.json numbers them: the table's one
item is the 80-bit request as ONE number, bit 0 its least significant bit, so `OP` is bits 79:72. DEDUCED from R40
(log 11), safe. -/
def decodeTableWord (nbits w : Nat) : Option Instr :=
  match decode (requestOfBits (BitVec.ofNat 80 (w % 2 ^ nbits))) with
  | .ok i => some i
  | .error _ => none

/-! ### Encoding -/

/-- The value of `OP` for each operation (R44). -/
def opcodeOf : Instr → Byte
  | .crc8Compute _ _ => 0x01#8
  | .crc8Verify _ _ _ => 0x02#8
  | .wordPack _ => 0x03#8
  | .wordUnpack _ _ _ => 0x04#8
  | .word3Unpack _ _ _ => 0x05#8
  | .cvtCo2Fromw _ => 0x10#8
  | .cvtTempFromw _ => 0x11#8
  | .cvtRhFromw _ => 0x12#8
  | .cvtToffFromw _ => 0x13#8
  | .cvtAltFromw _ => 0x14#8
  | .cvtFrcFromw _ => 0x15#8
  | .cvtCo2Tow _ => 0x20#8
  | .cvtToffTow _ => 0x23#8
  | .cvtAltTow _ => 0x24#8
  | .cvtPresTow _ => 0x26#8
  | .decDrdy _ => 0x30#8
  | .decSelftest _ => 0x31#8
  | .decAsc _ => 0x32#8
  | .encAsc _ => 0x33#8
  | .decSerial _ _ _ => 0x34#8

/-- Format `B2` assembled, unread bytes zero (R42, R50). -/
def argOfB2 (b0 b1 : Byte) : Arg := b0 ++ b1 ++ 0#56

/-- Format `B3` assembled. -/
def argOfB3 (b0 b1 c : Byte) : Arg := b0 ++ b1 ++ c ++ 0#48

/-- Format `B9` assembled. -/
def argOfB9 (g0 g1 g2 : ByteGroup) : Arg := g0.b0 ++ g0.b1 ++ g0.c ++ g1.b0 ++ g1.b1 ++ g1.c ++ g2.b0 ++ g2.b1 ++ g2.c

/-- Format `W` assembled, high byte first. -/
def argOfW (w : Word) : Arg := w ++ 0#56

/-- Format `W3` assembled. -/
def argOfW3 (w0 w1 w2 : Word) : Arg := w0 ++ w1 ++ w2 ++ 0#24

/-- Format `F` assembled. -/
def argOfF (x : F32) : Arg := x ++ 0#40

/-- Format `L` assembled: bits 7:1 of `D[0]` zero. -/
def argOfL (e : Bool) : Arg := 0#7 ++ BitVec.ofBool e ++ 0#64

/-- The operand of each operation, assembled. -/
def argOf : Instr → Arg
  | .crc8Compute b0 b1 => argOfB2 b0 b1
  | .crc8Verify b0 b1 c => argOfB3 b0 b1 c
  | .wordPack w => argOfW w
  | .wordUnpack b0 b1 c => argOfB3 b0 b1 c
  | .word3Unpack g0 g1 g2 => argOfB9 g0 g1 g2
  | .cvtCo2Fromw w => argOfW w
  | .cvtTempFromw w => argOfW w
  | .cvtRhFromw w => argOfW w
  | .cvtToffFromw w => argOfW w
  | .cvtAltFromw w => argOfW w
  | .cvtFrcFromw w => argOfW w
  | .cvtCo2Tow p => argOfW p
  | .cvtToffTow x => argOfF x
  | .cvtAltTow x => argOfF x
  | .cvtPresTow x => argOfF x
  | .decDrdy w => argOfW w
  | .decSelftest w => argOfW w
  | .decAsc w => argOfW w
  | .encAsc e => argOfL e
  | .decSerial w0 w1 w2 => argOfW3 w0 w1 w2

/-- The request of an operation, as the assembler writes it (R50). -/
def encode (i : Instr) : Request := { op := opcodeOf i, arg := argOf i }

/-- The request as its ten bytes `OP D0 ... D8` (R40). -/
def requestBytes (r : Request) : List Byte :=
  r.op :: [0, 1, 2, 3, 4, 5, 6, 7, 8].map (argByte r.arg)

end Sys2Proof
end

