-- ==== Sys2Proof/Machine/Params.lean ====
section
/-! DEFINITION. The parameters the source fixes (spec/00_scope.md R3): constants of the design, not configurable
(spec/10_state.md R19). -/

namespace Sys2Proof
namespace Machine

/-- `CRC_POLY` (R3): the low eight coefficients of the generator. -/
def crcPoly : Byte := 0x31#8

/-- `CRC_INIT` (R3). -/
def crcInit : Byte := 0xFF#8

/-- `CRC_XOROUT` (R3): no final XOR. -/
def crcXorOut : Byte := 0x00#8

/-- `DRDY_MASK` (R3, R120). -/
def drdyMask : Word := 0x07FF#16

/-- `ASC_MASK` (R3, R122). -/
def ascMask : Word := 0x0001#16

/-- `FRC_FAIL` (R3, R86): the response word of a failed forced recalibration. -/
def frcFail : Word := 0xFFFF#16

/-- `FRC_BIAS` (R3, R86). -/
def frcBias : Word := 0x8000#16

end Machine
end Sys2Proof
end

