-- ==== Sys2Proof/Machine/Flags.lean ====
section
/-! DEFINITION. The outcome codes of `ST`, the block's only status flag (spec/10_state.md R12, R23), the checksum
function (spec/40_checksum.md R60, R61), and the three tests of status words (spec/43_status_decoders.md). -/

namespace Sys2Proof
namespace Machine

/-! ### Outcome codes -/

/-- The four outcomes of a step (R12, R140). -/
inductive Status where
  /-- the operation produced its result -/
  | ok
  /-- a group's checksum does not match (R142) -/
  | checksumMismatch
  /-- the forced-recalibration word carries no value (R144) -/
  | none
  /-- `OP` is not assigned (R143) -/
  | illegalOp
  deriving DecidableEq, Repr

/-- The value of `ST` for each outcome (R12, D10). -/
def statusCode : Status → Byte
  | .ok => 0x00#8
  | .checksumMismatch => 0x01#8
  | .none => 0x02#8
  | .illegalOp => 0xFF#8

/-! ### The checksum function -/

/-- The bit step `S` (R60): the top bit is tested before the shift, the bit shifted out is discarded, and the
polynomial is XORed after the shift. -/
def bitStep (c : Byte) : Byte := if c.getLsbD 7 then (c <<< 1) ^^^ crcPoly else c <<< 1

/-- The byte step `T`: eight bit steps (R60). -/
def byteStep (c : Byte) : Byte :=
  bitStep (bitStep (bitStep (bitStep (bitStep (bitStep (bitStep (bitStep c)))))))

/-- `crc8(b0, b1) = T(T(0xFF XOR b0) XOR b1)`, no final XOR (R61). -/
def crc8 (b0 b1 : Byte) : Byte := byteStep (byteStep (crcInit ^^^ b0) ^^^ b1) ^^^ crcXorOut

/-! ### Tests of status words -/

/-- "ready iff `(word & 0x07FF) != 0`" (R120). -/
def isReady (w : Word) : Bool := w &&& drdyMask != 0#16

/-- "pass iff word == 0": all 16 bits are tested (R121). -/
def selfTestPassed (w : Word) : Bool := w == 0#16

/-- "enabled iff `(word & 1) != 0`" (R122). -/
def ascEnabled (w : Word) : Bool := w &&& ascMask != 0#16

end Machine
end Sys2Proof
end

