-- ==== Sys2Proof/Machine/State.lean ====
section
/-! DEFINITION. The block's whole architectural state, its reset values, and the reasons a step can stop
(spec/10_state.md R10 to R16, R21; spec/60_exceptions.md R140). -/

namespace Sys2Proof
namespace Machine

/-- The six registers of R10 to R14, and the host inputs still to come. -/
structure State where
  /-- `CRC`, the running CRC register; hidden, no read port (R11, R20) -/
  crc : Byte
  /-- `ST`, the outcome code of the last request (R12) -/
  st : Byte
  /-- `RES`, the result, right-justified and zero-extended (R13) -/
  res : Result
  /-- `ACT`, the checksum computed over a failing group's payload, else 0 (R14) -/
  act : Byte
  /-- `EXP`, the checksum supplied with a failing group, else 0 (R14) -/
  exp : Byte
  /-- `GRP`, the index of the failing group, else 0 (R14) -/
  grp : BitVec 2
  /-- THE MODEL'S OWN, no register of the block: what the host will present, one input a step, in issue order
  (R16, R39, R161, R169). DESIGN CHOICE (log 1), safe for every host that keeps R164. -/
  inputs : List HostInput
  deriving DecidableEq, Repr

/-- The state after reset (R21, R160). `inputs` is empty: nothing is presented yet (DESIGN CHOICE, log 1). -/
def State.reset : State :=
  { crc := 0xFF#8, st := 0x00#8, res := 0#48, act := 0x00#8, exp := 0x00#8, grp := 0#2, inputs := [] }

/-- No fault exists: "every request has a response" (R18, R47), and the block's errors are outcome codes in `ST`
(R140, R148). So the type has no constructor, nobody raises one, and no proof can hide behind one. -/
inductive Fault where
  deriving DecidableEq, Repr

/-- Why the model would give an instruction no meaning. -/
inductive Refusal where
  /-- Raised only by an arm of `exec` whose instruction has no meaning yet: no arm is one, so nobody raises it.
  Safe: the model would stop where the hardware goes on. -/
  | notModelled (mnemonic : String)
  deriving DecidableEq, Repr

end Machine
end Sys2Proof
end

