-- ==== Sys2Proof/Machine/Ops.lean ====
section
/-! DEFINITION. The named operations on the registers: the four responses (spec/10_state.md R15, spec/60_exceptions.md
R142 to R144, R148), the running CRC register (R11, R61), the check of one group, and taking the host's inputs
(spec/70_reset_and_hazards.md R161, R169). -/

namespace Sys2Proof
namespace Machine

/-! ### Responses: every request writes all five response registers (R15) -/

/-- Writes `ST`, `RES`, `ACT`, `EXP` and `GRP` together. -/
def State.respond (s : State) (o : Status) (res : Result) (act exp : Byte) (grp : BitVec 2) : State :=
  { s with st := statusCode o, res := res, act := act, exp := exp, grp := grp }

/-- `respond_ok(v)` (R15). -/
def State.respondOk (s : State) (v : Result) : State := s.respond .ok v 0#8 0#8 0#2

/-- `raise ChecksumMismatch(act, exp, grp)` (R142): `RES` is 0, no partial result. -/
def State.raiseChecksumMismatch (s : State) (act exp : Byte) (grp : BitVec 2) : State :=
  s.respond .checksumMismatch 0#48 act exp grp

/-- The outcome NONE (R144). -/
def State.respondNone (s : State) : State := s.respond .none 0#48 0#8 0#8 0#2

/-- `raise IllegalOp` (R143): `CRC` unchanged, `ARG` not examined. -/
def State.raiseIllegalOp (s : State) : State := s.respond .illegalOp 0#48 0#8 0#8 0#2

/-! ### The running CRC register (R11, R61) -/

/-- `CRC <- 0xFF` (R61). -/
def State.crcLoad (s : State) : State := { s with crc := crcInit }

/-- `CRC <- T(CRC XOR b)` (R61). -/
def State.crcFeed (s : State) (b : Byte) : State := { s with crc := byteStep (s.crc ^^^ b) }

/-- The end of an evaluation: no final XOR (R61). -/
def State.crcFinish (s : State) : State := { s with crc := s.crc ^^^ crcXorOut }

/-- One evaluation of `crc8(b0, b1)` in the register `CRC`, which holds the checksum afterwards (R11, R61). -/
def State.crcRun (s : State) (b0 b1 : Byte) : State := ((s.crcLoad.crcFeed b0).crcFeed b1).crcFinish

/-- The check of group `g` (R64, R66, R67): evaluate the checksum of its payload; where it equals the checksum
supplied, go on with `k`, else raise ChecksumMismatch, after which nothing more is done. -/
def State.verifyGroup (s : State) (grp : BitVec 2) (g : ByteGroup) (k : State → State) : State :=
  let t := s.crcRun g.b0 g.b1
  if t.crc = g.c then k t else t.raiseChecksumMismatch t.crc g.c grp

/-! ### What the host reads (R37): no step, no side effect -/

/-- The response registers (R15). -/
structure Response where
  st : Byte
  res : Result
  act : Byte
  exp : Byte
  grp : BitVec 2
  deriving DecidableEq, Repr

/-- What the host reads after a step; `CRC` has no read port (R11). -/
def State.response (s : State) : Response :=
  { st := s.st, res := s.res, act := s.act, exp := s.exp, grp := s.grp }

/-! ### The host's inputs -/

/-- The input presented now, if any (R16, R169). -/
def State.nextInput (s : State) : Option HostInput := s.inputs.head?

/-- The input presented now has been taken; the block keeps no copy of it (R29). -/
def State.dropInput (s : State) : State := { s with inputs := s.inputs.tail }

/-- Presents an input ahead of all others. -/
def State.present (s : State) (i : HostInput) : State := { s with inputs := i :: s.inputs }

/-- Reset (R160, R161): every register takes its reset value; what the host presents next is the host's. DEDUCED
(log 3), safe. -/
def State.takeReset (s : State) : State := { State.reset with inputs := s.inputs }

/-- No request is presented: "Between requests the block is idle and holds its registers" (R151). DEDUCED (log 2),
safe. -/
def State.idle (s : State) : State := s

end Machine
end Sys2Proof
end

