-- ==== Sys2Proof/Machine/Checksum.lean ====
section
/-! DEFINITION. The checksum family (spec/40_checksum.md R63 to R67). -/

namespace Sys2Proof
namespace Machine

/-- CRC8.COMPUTE (R63). -/
def execCrc8Compute (b0 b1 : Byte) (s : State) : Host.Outcome State Fault Refusal :=
  let t := s.crcRun b0 b1
  .next (t.respondOk (layoutR8 t.crc))

/-- CRC8.VERIFY (R64). -/
def execCrc8Verify (b0 b1 c : Byte) (s : State) : Host.Outcome State Fault Refusal :=
  .next (s.verifyGroup 0#2 { b0 := b0, b1 := b1, c := c } fun t => t.respondOk layoutR0)

/-- WORD.PACK (R65). -/
def execWordPack (w : Word) (s : State) : Host.Outcome State Fault Refusal :=
  let hi : Byte := w.extractLsb' 8 8
  let lo : Byte := w.extractLsb' 0 8
  let t := s.crcRun hi lo
  .next (t.respondOk (layoutFrame hi lo t.crc))

/-- WORD.UNPACK (R66). -/
def execWordUnpack (b0 b1 c : Byte) (s : State) : Host.Outcome State Fault Refusal :=
  .next (s.verifyGroup 0#2 { b0 := b0, b1 := b1, c := c } fun t => t.respondOk (layoutRw (b0 ++ b1)))

/-- WORD3.UNPACK (R67): groups in the order 0, 1, 2; the first that fails is reported and ends the operation
(R147, D12). -/
def execWord3Unpack (g0 g1 g2 : ByteGroup) (s : State) : Host.Outcome State Fault Refusal :=
  .next (s.verifyGroup 0#2 g0 fun t0 => t0.verifyGroup 1#2 g1 fun t1 => t1.verifyGroup 2#2 g2 fun t2 =>
    t2.respondOk (layoutRw3 (g0.b0 ++ g0.b1) (g1.b0 ++ g1.b1) (g2.b0 ++ g2.b1)))

end Machine
end Sys2Proof
end

