-- ==== Sys2Proof/Machine/FromWord.lean ====
section
/-! DEFINITION. The word-to-quantity family (spec/41_conv_from_word.md R81 to R86). -/

namespace Sys2Proof
namespace Machine

/-- CVT.CO2.FROMW (R81): the ppm value is the word. -/
def execCvtCo2Fromw (w : Word) (s : State) : Host.Outcome State Fault Refusal :=
  .next (s.respondOk (layoutRw w))

/-- CVT.TEMP.FROMW (R82): `n = 175*w - 2949120`, the value `n / 65536`. -/
def execCvtTempFromw (w : Word) (s : State) : Host.Outcome State Fault Refusal :=
  .next (s.respondOk (layoutRf32 (f32q (175 * (w.toNat : Int) - 2949120) 16)))

/-- CVT.RH.FROMW (R83): `n = 100*w`, the value `n / 65536`. -/
def execCvtRhFromw (w : Word) (s : State) : Host.Outcome State Fault Refusal :=
  .next (s.respondOk (layoutRf32 (f32q (100 * (w.toNat : Int)) 16)))

/-- CVT.TOFF.FROMW (R84): `n = 175*w`, the value `n / 65536`. -/
def execCvtToffFromw (w : Word) (s : State) : Host.Outcome State Fault Refusal :=
  .next (s.respondOk (layoutRf32 (f32q (175 * (w.toNat : Int)) 16)))

/-- CVT.ALT.FROMW (R85): the integer `w`, widened. -/
def execCvtAltFromw (w : Word) (s : State) : Host.Outcome State Fault Refusal :=
  .next (s.respondOk (layoutRf32 (f32q (w.toNat : Int) 0)))

/-- CVT.FRC.FROMW (R86): the failure word is tested first; the subtraction wraps in 16 bits. -/
def execCvtFrcFromw (w : Word) (s : State) : Host.Outcome State Fault Refusal :=
  .next (if w = frcFail then s.respondNone else s.respondOk (layoutRi16 (w - frcBias)))

end Machine
end Sys2Proof
end

