-- ==== Sys2Proof/Machine/StatusDecoders.lean ====
section
/-! DEFINITION. The status and identity decoders (spec/43_status_decoders.md R120 to R124). -/

namespace Sys2Proof
namespace Machine

/-- DEC.DRDY (R120): only the low 11 bits are tested. -/
def execDecDrdy (w : Word) (s : State) : Host.Outcome State Fault Refusal :=
  .next (s.respondOk (layoutRbool (isReady w)))

/-- DEC.SELFTEST (R121): a failed self-test is the result 0, not an error. -/
def execDecSelftest (w : Word) (s : State) : Host.Outcome State Fault Refusal :=
  .next (s.respondOk (layoutRbool (selfTestPassed w)))

/-- DEC.ASC (R122): only bit 0 is tested. -/
def execDecAsc (w : Word) (s : State) : Host.Outcome State Fault Refusal :=
  .next (s.respondOk (layoutRbool (ascEnabled w)))

/-- ENC.ASC (R123): `zext_16(e)`. -/
def execEncAsc (e : Bool) (s : State) : Host.Outcome State Fault Refusal :=
  .next (s.respondOk (layoutRw ((BitVec.ofBool e).setWidth 16)))

/-- DEC.SERIAL (R124): the first word received is the most significant. -/
def execDecSerial (w0 w1 w2 : Word) (s : State) : Host.Outcome State Fault Refusal :=
  .next (s.respondOk (layoutRu48 w0 w1 w2))

end Machine
end Sys2Proof
end

