-- ==== Sys2Proof/Config.lean ====
section
/-! DEFINITION. What is fixed before the first step and not by the spec: the one open parameter `OOR_WORD`
(spec/00_scope.md R4, spec/42_conv_to_word.md R101, spec/92_eei_decisions.md D16). The parameters the source fixes
(R3) are in Machine/Params.lean. -/

namespace Sys2Proof

/-- The three operations that can meet an out-of-range operand: the first argument of `OOR_WORD`
(D16: "op in {0x23, 0x24, 0x26}"). -/
inductive OorOp where
  /-- CVT.TOFF.TOW, `OP` 0x23 -/
  | toff
  /-- CVT.ALT.TOW, `OP` 0x24 -/
  | alt
  /-- CVT.PRES.TOW, `OP` 0x26 -/
  | pres
  deriving DecidableEq, Repr

/-- `OOR_WORD(op, x)` (R101): "a total function of the operation and the 32 operand bits to a 16-bit word, fixed
before the first step, about which no rule of this spec says anything more". A FREE VALUE: it has no body, so no
statement can rest on which word it is. DESIGN CHOICE (log 4), safe: the form of the parameter only. -/
opaque Config.oorWord : OorOp → F32 → Word

end Sys2Proof
end

