-- ==== Sys2Proof/Machine/ToWord.lean ====
section
/-! DEFINITION. The quantity-to-word family (spec/42_conv_to_word.md R102 to R105). The outcome is OK for every
operand; out of range the word is the free parameter `Config.oorWord` (R101, log 4). -/

namespace Sys2Proof
namespace Machine

/-- CVT.CO2.TOW (R102): the word is the ppm value. -/
def execCvtCo2Tow (p : Word) (s : State) : Host.Outcome State Fault Refusal :=
  .next (s.respondOk (layoutRw p))

/-- CVT.TOFF.TOW (R103). -/
def execCvtToffTow (x : F32) (s : State) : Host.Outcome State Fault Refusal :=
  .next (s.respondOk (layoutRw (wordInRange (offsetOperand x) (Config.oorWord .toff x))))

/-- CVT.ALT.TOW (R104). -/
def execCvtAltTow (x : F32) (s : State) : Host.Outcome State Fault Refusal :=
  .next (s.respondOk (layoutRw (wordInRange (truncOperand x) (Config.oorWord .alt x))))

/-- CVT.PRES.TOW (R105). -/
def execCvtPresTow (x : F32) (s : State) : Host.Outcome State Fault Refusal :=
  .next (s.respondOk (layoutRw (wordInRange (truncOperand x) (Config.oorWord .pres x))))

end Machine
end Sys2Proof
end

