-- ==== Sys2Proof/Machine/Dispatch.lean ====
section
/-! DEFINITION. One arm per operation of spec/30_encoding.md R44. -/

namespace Sys2Proof
namespace Machine

def exec (i : Instr) (s : State) : Host.Outcome State Fault Refusal :=
  match i with
  | .crc8Compute b0 b1 => Sys2Proof.Machine.execCrc8Compute b0 b1 s
  | .crc8Verify b0 b1 c => Sys2Proof.Machine.execCrc8Verify b0 b1 c s
  | .wordPack w => Sys2Proof.Machine.execWordPack w s
  | .wordUnpack b0 b1 c => Sys2Proof.Machine.execWordUnpack b0 b1 c s
  | .word3Unpack g0 g1 g2 => Sys2Proof.Machine.execWord3Unpack g0 g1 g2 s
  | .cvtCo2Fromw w => Sys2Proof.Machine.execCvtCo2Fromw w s
  | .cvtTempFromw w => Sys2Proof.Machine.execCvtTempFromw w s
  | .cvtRhFromw w => Sys2Proof.Machine.execCvtRhFromw w s
  | .cvtToffFromw w => Sys2Proof.Machine.execCvtToffFromw w s
  | .cvtAltFromw w => Sys2Proof.Machine.execCvtAltFromw w s
  | .cvtFrcFromw w => Sys2Proof.Machine.execCvtFrcFromw w s
  | .cvtCo2Tow p => Sys2Proof.Machine.execCvtCo2Tow p s
  | .cvtToffTow x => Sys2Proof.Machine.execCvtToffTow x s
  | .cvtAltTow x => Sys2Proof.Machine.execCvtAltTow x s
  | .cvtPresTow x => Sys2Proof.Machine.execCvtPresTow x s
  | .decDrdy w => Sys2Proof.Machine.execDecDrdy w s
  | .decSelftest w => Sys2Proof.Machine.execDecSelftest w s
  | .decAsc w => Sys2Proof.Machine.execDecAsc w s
  | .encAsc e => Sys2Proof.Machine.execEncAsc e s
  | .decSerial w0 w1 w2 => Sys2Proof.Machine.execDecSerial w0 w1 w2 s

end Machine
end Sys2Proof
end

