-- ==== Sys2Proof/Machine/Serve.lean ====
section
/-! DEFINITION. Serving one request and one input (spec/10_state.md R18; spec/60_exceptions.md R147): what Step calls. -/

namespace Sys2Proof
namespace Machine

/-- One request in one atomic step (R18): `OP` is decoded first, an unassigned one gives ILLEGAL_OP and nothing else
is examined, otherwise the operation runs (R147). -/
def serveRequest (r : Request) (s : State) : Host.Outcome State Fault Refusal :=
  match decode r with
  | .ok i => exec i s
  | .error _ => .next s.raiseIllegalOp

/-- One input of the host: a request (R39), or reset between requests (R161). -/
def serveInput (i : HostInput) (s : State) : Host.Outcome State Fault Refusal :=
  match i with
  | .request r => serveRequest r s
  | .reset => .next s.takeReset

/-- The input presented now is taken and served; with none the block is idle (R151). -/
def serveNext (s : State) : Host.Outcome State Fault Refusal :=
  match s.nextInput with
  | some i => serveInput i s.dropInput
  | none => .next s.idle

/-- The request of a table word, as the next input (R40; log 11). -/
def presentWord (s : State) (nbits w : Nat) : State :=
  s.present (.request (requestOfBits (BitVec.ofNat 80 (w % 2 ^ nbits))))

end Machine
end Sys2Proof
end

