-- ==== Sys2Proof/Machine/Step.lean ====
section
/-! DEFINITION. The step of the block (spec/10_state.md R18; spec/70_reset_and_hazards.md R169). -/

namespace Sys2Proof
namespace Machine

/-- One step: the host's next input is taken and served (R18, R39, R161). -/
def step (s : State) : Host.Outcome State Fault Refusal := serveNext s

/-- `s` with the operation in the low `nbits` bits of `w` presented as the very next request. The block fetches
nothing (R17, R29), so this stands for the host presenting it (log 11). -/
def State.withFetchWord (s : State) (nbits w : Nat) : State := presentWord s nbits w

end Machine
end Sys2Proof
end

