-- ==== Sys2Proof/Safety.lean ====
section
/-! DEFINITION. The terms in which claims are stated: the real number a binary32 pattern stands for, the registers a
response leaves, the responses of a run, the block as a pure function, the checksum as a polynomial remainder, and
what a coherent state is. None of them is used by the machine. -/

namespace Sys2Proof
namespace Machine

/-! ### Binary32 patterns as rational numbers (R106) -/

/-- R106's `e`, bits 30:23. -/
def exponentOf (x : F32) : Nat := x.toNat / 2 ^ 23 % 256

/-- R106's `f`, bits 22:0. -/
def fractionOf (x : F32) : Nat := x.toNat % 2 ^ 23

/-- R106's `(-1)^s`. -/
def signOf (x : F32) : ℚ := if x.toNat < 2 ^ 31 then 1 else -1

/-- R106: "if `e = 255` and `f != 0`, `x` is a NaN". -/
abbrev IsNaN (x : F32) : Prop := exponentOf x = 255 ∧ fractionOf x ≠ 0

/-- R106: "if `e = 255` and `f = 0`, `x` is an infinity". -/
abbrev IsInfinity (x : F32) : Prop := exponentOf x = 255 ∧ fractionOf x = 0

/-- Neither a NaN nor an infinity. -/
abbrev IsFinite (x : F32) : Prop := exponentOf x ≠ 255

/-- A normal number, or positive zero: what every `rf32` result is (R131). -/
abbrev IsNormalOrZero (x : F32) : Prop := (exponentOf x ≠ 255 ∧ exponentOf x ≠ 0) ∨ x = 0#32

/-- `real(x)` of a finite pattern (R106): `(-1)^s * f * 2^-149` for a zero or a subnormal, otherwise
`(-1)^s * (2^23 + f) * 2^(e-150)`. -/
def realOf (x : F32) : ℚ :=
  if exponentOf x = 0 then signOf x * fractionOf x * 2 ^ (-149 : ℤ)
  else signOf x * (2 ^ 23 + fractionOf x) * 2 ^ ((exponentOf x : ℤ) - 150)

/-- `trunc` (spec/00_scope.md section 5): "the integer part of `x` toward zero". -/
def truncOf (q : ℚ) : ℤ := if 0 ≤ q then ⌊q⌋ else ⌈q⌉

/-- The in-range operands of CVT.ALT.TOW and CVT.PRES.TOW (R100): finite, and `-1 < real(x) < 65536`. -/
abbrev TruncInRange (x : F32) : Prop := IsFinite x ∧ -1 < realOf x ∧ realOf x < 65536

/-- The in-range operands of CVT.TOFF.TOW (R100): finite, and `-175/131072 < real(x) < 175*131071/131072`. -/
abbrev OffsetInRange (x : F32) : Prop :=
  IsFinite x ∧ -(175 / 131072) < realOf x ∧ realOf x < 175 * 131071 / 131072

/-- `floor(65536 * real(x) / 175 + 1/2)`: the word of CVT.TOFF.TOW in exact arithmetic (R103). -/
def offsetWordExact (x : F32) : ℤ := ⌊65536 * realOf x / 175 + 1 / 2⌋

/-! ### The registers a response leaves -/

/-- The outcome OK with `v` in `RES` (R12, R13, R14, R15); `CRC` and the inputs as in `s`. -/
def State.afterOk (s : State) (v : Result) : State :=
  { s with st := 0x00#8, res := v, act := 0x00#8, exp := 0x00#8, grp := 0#2 }

/-- The outcome CHECKSUM_MISMATCH (R142); `CRC` and the inputs as in `s`. -/
def State.afterMismatch (s : State) (act exp : Byte) (grp : BitVec 2) : State :=
  { s with st := 0x01#8, res := 0#48, act := act, exp := exp, grp := grp }

/-- The outcome NONE (R144). -/
def State.afterNone (s : State) : State :=
  { s with st := 0x02#8, res := 0#48, act := 0x00#8, exp := 0x00#8, grp := 0#2 }

/-- The outcome ILLEGAL_OP (R143). -/
def State.afterIllegal (s : State) : State :=
  { s with st := 0xFF#8, res := 0#48, act := 0x00#8, exp := 0x00#8, grp := 0#2 }

/-! ### The checksum as a remainder of polynomials over GF(2) -/

/-- Long division by x^8 + x^5 + x^4 + 1 (0x131): the bits `k + 7` down to 8 of `v` are cleared, from the top. -/
def divideOut : Nat → Nat → Nat
  | 0, v => v
  | k + 1, v => divideOut k (if v.testBit (k + 8) then v ^^^ (0x131 <<< k) else v)

/-- The remainder of the payload, its first byte XORed with 0xFF, times x^8. -/
def crcRemainder (b0 b1 : Byte) : Nat :=
  divideOut 16 ((256 * (255 - b0.toNat) + b1.toNat) * 256)

/-! ### The block as a pure function of the request (R22) -/

/-- The response OK with `v`. -/
def okResponse (v : Result) : Response := { st := 0x00#8, res := v, act := 0x00#8, exp := 0x00#8, grp := 0#2 }

/-- The response to groups that are to be checked: that of the first that fails, else OK with `v` (R142, R147). -/
def groupsResponse (v : Result) : List (BitVec 2 × ByteGroup) → Response
  | [] => okResponse v
  | (i, g) :: rest =>
    if crc8 g.b0 g.b1 = g.c then groupsResponse v rest
    else { st := 0x01#8, res := 0#48, act := crc8 g.b0 g.b1, exp := g.c, grp := i }

/-- The response to each operation. -/
def instrResponse : Instr → Response
  | .crc8Compute b0 b1 => okResponse (layoutR8 (crc8 b0 b1))
  | .crc8Verify b0 b1 c => groupsResponse layoutR0 [(0, { b0 := b0, b1 := b1, c := c })]
  | .wordPack w => okResponse ((w ++ crc8 (w.extractLsb' 8 8) (w.extractLsb' 0 8)).setWidth 48)
  | .wordUnpack b0 b1 c => groupsResponse (layoutRw (b0 ++ b1)) [(0, { b0 := b0, b1 := b1, c := c })]
  | .word3Unpack g0 g1 g2 =>
    groupsResponse (g0.b0 ++ g0.b1 ++ g1.b0 ++ g1.b1 ++ g2.b0 ++ g2.b1) [(0, g0), (1, g1), (2, g2)]
  | .cvtCo2Fromw w => okResponse (layoutRw w)
  | .cvtTempFromw w => okResponse (layoutRf32 (f32q (175 * (w.toNat : Int) - 2949120) 16))
  | .cvtRhFromw w => okResponse (layoutRf32 (f32q (100 * (w.toNat : Int)) 16))
  | .cvtToffFromw w => okResponse (layoutRf32 (f32q (175 * (w.toNat : Int)) 16))
  | .cvtAltFromw w => okResponse (layoutRf32 (f32q (w.toNat : Int) 0))
  | .cvtFrcFromw w =>
    if w = 0xFFFF#16 then { st := 0x02#8, res := 0#48, act := 0x00#8, exp := 0x00#8, grp := 0#2 }
    else okResponse (layoutRi16 (w ^^^ 0x8000#16))
  | .cvtCo2Tow p => okResponse (layoutRw p)
  | .cvtToffTow x =>
    okResponse (layoutRw (if OffsetInRange x then BitVec.ofInt 16 (offsetWordExact x) else Config.oorWord .toff x))
  | .cvtAltTow x =>
    okResponse (layoutRw (if TruncInRange x then BitVec.ofInt 16 (truncOf (realOf x)) else Config.oorWord .alt x))
  | .cvtPresTow x =>
    okResponse (layoutRw (if TruncInRange x then BitVec.ofInt 16 (truncOf (realOf x)) else Config.oorWord .pres x))
  | .decDrdy w => okResponse (layoutRbool (decide (w.toNat % 2048 ≠ 0)))
  | .decSelftest w => okResponse (layoutRbool (decide (w.toNat = 0)))
  | .decAsc w => okResponse (layoutRbool (decide (w.toNat % 2 = 1)))
  | .encAsc e => okResponse (layoutRw (if e then 1#16 else 0#16))
  | .decSerial w0 w1 w2 => okResponse (w0 ++ w1 ++ w2)

/-- R22: `exec : (OP, ARG) -> (ST, RES, ACT, EXP, GRP)`, one application per request, with no register and with exact
rational arithmetic in place of rounded floats. -/
def answer (r : Request) : Response :=
  match decode r with
  | .ok i => instrResponse i
  | .error _ => { st := 0xFF#8, res := 0#48, act := 0x00#8, exp := 0x00#8, grp := 0#2 }

/-! ### Runs (R169) -/

/-- The responses the host reads, one after each of `k` steps. -/
def responsesOf : Nat → State → List Response
  | 0, _ => []
  | k + 1, s =>
    match step s with
    | .next t => t.response :: responsesOf k t
    | .fault _ => []
    | .refused _ => []

/-- `s` with a run of requests presented in the list `inputs` (log 1): "a finite list of requests chosen by the host"
(R169). -/
def State.withRun (s : State) (rs : List Request) : State := { s with inputs := rs.map HostInput.request }

/-! ### Unassigned opcodes -/

/-- R46: "0x00, 0x06 to 0x0F, 0x16 to 0x1F, 0x21, 0x22, 0x25, 0x27 to 0x2F, 0x35 to 0xFF". -/
abbrev IsUnassigned (op : Byte) : Prop :=
  op.toNat = 0x00 ∨ (0x06 ≤ op.toNat ∧ op.toNat ≤ 0x0F) ∨ (0x16 ≤ op.toNat ∧ op.toNat ≤ 0x1F) ∨
  op.toNat = 0x21 ∨ op.toNat = 0x22 ∨ op.toNat = 0x25 ∨ (0x27 ≤ op.toNat ∧ op.toNat ≤ 0x2F) ∨ 0x35 ≤ op.toNat

/-! ### The quantity a word-to-quantity operation delivers -/

/-- `real(RES[31:0])` after operation `i` from state `s`: the notation `real(CVT.TEMP.FROMW(w))` of R88. -/
def quantityAfter (i : Instr) (s : State) : ℚ :=
  match exec i s with
  | .next t => realOf (t.res.setWidth 32)
  | .fault _ => 0
  | .refused _ => 0

/-! ### Coherent states -/

/-- What R12, R13, R14 and R142 say of the registers together: `ST` takes four values; `RES` is 0 unless OK; `ACT`,
`EXP`, `GRP` are 0 unless CHECKSUM_MISMATCH, and then `CRC` holds `ACT`, `ACT != EXP` and `GRP` is 0, 1 or 2. -/
abbrev State.Coherent (s : State) : Prop :=
  (s.st = 0x00#8 ∨ s.st = 0x01#8 ∨ s.st = 0x02#8 ∨ s.st = 0xFF#8) ∧
  (s.st ≠ 0x00#8 → s.res = 0#48) ∧
  (s.st ≠ 0x01#8 → s.act = 0#8 ∧ s.exp = 0#8 ∧ s.grp = 0#2) ∧
  (s.st = 0x01#8 → s.crc = s.act ∧ s.act ≠ s.exp ∧ s.grp ≠ 3#2)

end Machine
end Sys2Proof
end

