-- ==== Sys2Proof/Certificates/Slice0/Obligations.lean ====
section
/-! DEFINITION. The statements for the provers. Each docstring names the rule of spec/ it comes from. -/

open Sys2Proof
open Sys2Proof.Machine

/-! ### Requests and decoding -/

/-- R42, R44, R50: an operation that is assembled is decoded as itself, every operand at every value. -/
def Obligations.DecodeAfterEncode : Prop :=
  ∀ i : Instr, i.wf = true → decode (encode i) = .ok i

/-- R42, R44, R45: what decoding keeps of a request is exactly its `OP` and the bits its format reads. -/
def Obligations.EncodeAfterDecode : Prop :=
  ∀ (r : Request) (i : Instr), decode r = .ok i →
    (encode i).op = r.op ∧ (encode i).arg = r.arg &&& i.format.readMask

/-- R45: bits of `ARG` that the format does not read change neither the decoding nor the response nor `CRC`. -/
def Obligations.UnreadBitsIgnored : Prop :=
  ∀ (r r' : Request) (i : Instr), decode r = .ok i → r'.op = r.op →
    r'.arg &&& i.format.readMask = r.arg &&& i.format.readMask →
    decode r' = .ok i ∧ ∀ s : State, serveRequest r' s = serveRequest r s

/-- R46, R143: the 236 unassigned values of `OP`, whatever `ARG` holds: ILLEGAL_OP, `CRC` unchanged; every other
value is an operation. -/
def Obligations.UnassignedOpIsIllegal : Prop :=
  (∀ (r : Request) (s : State), IsUnassigned r.op → serveRequest r s = .next s.afterIllegal) ∧
  (∀ r : Request, ¬ IsUnassigned r.op → ∃ i, decode r = .ok i ∧ opcodeOf i = r.op) ∧
  ((List.range 256).filter fun n => decide (IsUnassigned (BitVec.ofNat 8 n))).length = 236

/-- The example words of R50's table, byte by byte. -/
def Obligations.AssemblerExamplesDecode : Prop :=
  decodeBytes [0x01, 0xBE, 0xEF, 0, 0, 0, 0, 0, 0, 0] = .ok (.crc8Compute 0xBE 0xEF) ∧
  decodeBytes [0x02, 0xBE, 0xEF, 0x92, 0, 0, 0, 0, 0, 0] = .ok (.crc8Verify 0xBE 0xEF 0x92) ∧
  decodeBytes [0x11, 0x66, 0x67, 0, 0, 0, 0, 0, 0, 0] = .ok (.cvtTempFromw 0x6667) ∧
  decodeBytes [0x34, 0xF8, 0x96, 0x9F, 0x07, 0x3B, 0xBE, 0, 0, 0] = .ok (.decSerial 0xF896 0x9F07 0x3BBE) ∧
  decodeBytes [0x24, 0x44, 0xF3, 0xC0, 0x00, 0, 0, 0, 0, 0] = .ok (.cvtAltTow 0x44F3C000) ∧
  decodeBytes [0x33, 0x01, 0, 0, 0, 0, 0, 0, 0, 0] = .ok (.encAsc true)

/-! ### The checksum function -/

/-- R60: the bit step, in integers, and the byte step, eight bit steps. -/
def Obligations.BitStepAndByteStep : Prop :=
  (∀ c : Byte, (bitStep c).toNat =
    if c.toNat / 128 = 1 then (2 * c.toNat % 256) ^^^ 0x31 else 2 * c.toNat % 256) ∧
  (∀ c : Byte, byteStep c = bitStep^[8] c)

/-- R61: `crc8` is two byte steps from 0xFF with no final XOR, and the register `CRC` ends at it from any state. -/
def Obligations.CrcOfTwoBytes : Prop :=
  ∀ (b0 b1 : Byte) (s : State),
    crc8 b0 b1 = byteStep (byteStep (0xFF#8 ^^^ b0) ^^^ b1) ∧
    s.crcRun b0 b1 = { s with crc := byteStep (byteStep (0xFF#8 ^^^ b0) ^^^ b1) }

/-- R60, R61: the shift register computes the remainder of division by x^8 + x^5 + x^4 + 1. -/
def Obligations.CrcIsPolynomialRemainder : Prop :=
  ∀ b0 b1 : Byte, (crc8 b0 b1).toNat = crcRemainder b0 b1

/-- R69 (a), (b), (c): the byte step is linear and a bijection, and `crc8` is affine in the payload. -/
def Obligations.CrcIsAffine : Prop :=
  (∀ x y : Byte, bitStep (x ^^^ y) = bitStep x ^^^ bitStep y ∧ byteStep (x ^^^ y) = byteStep x ^^^ byteStep y) ∧
  byteStep 0#8 = 0#8 ∧ Function.Bijective byteStep ∧
  (∀ b0 b1 e0 e1 : Byte,
    crc8 (b0 ^^^ e0) (b1 ^^^ e1) = crc8 b0 b1 ^^^ byteStep (byteStep e0 ^^^ e1)) ∧
  crc8 0x00#8 0x00#8 = 0x81#8

/-- R69 (d), (e): each byte of the payload alone determines the checksum bijectively, every checksum is taken by
exactly 256 payloads, and a frame verifies exactly when the byte step over all three bytes ends at 0. -/
def Obligations.CrcIsBalanced : Prop :=
  (∀ b0 : Byte, Function.Bijective (crc8 b0)) ∧
  (∀ b1 : Byte, Function.Bijective fun b0 => crc8 b0 b1) ∧
  (∀ c : Byte, (((List.range 65536).filter fun n =>
    crc8 (BitVec.ofNat 8 (n / 256)) (BitVec.ofNat 8 (n % 256)) == c).length = 256)) ∧
  (∀ b0 b1 c : Byte, crc8 b0 b1 = c ↔ byteStep (crc8 b0 b1 ^^^ c) = 0#8)

/-- R69 (d): a received frame that differs from a valid one in exactly one of its three bytes is rejected. -/
def Obligations.SingleByteErrorDetected : Prop :=
  ∀ (b0 b1 b0' b1' c' : Byte) (s : State),
    (b0' ≠ b0 ∧ b1' = b1 ∧ c' = crc8 b0 b1) ∨ (b0' = b0 ∧ b1' ≠ b1 ∧ c' = crc8 b0 b1) ∨
      (b0' = b0 ∧ b1' = b1 ∧ c' ≠ crc8 b0 b1) →
    exec (.wordUnpack b0' b1' c') s =
      .next (State.afterMismatch { s with crc := crc8 b0' b1' } (crc8 b0' b1') c' 0#2)

/-! ### The checksum family -/

/-- R63. -/
def Obligations.ChecksumComputeResult : Prop :=
  (∀ a : Arg, decode { op := 0x01#8, arg := a } = .ok (.crc8Compute (a.extractLsb' 64 8) (a.extractLsb' 56 8))) ∧
  ∀ (b0 b1 : Byte) (s : State),
    exec (.crc8Compute b0 b1) s =
      .next (State.afterOk { s with crc := crc8 b0 b1 } (BitVec.ofNat 48 (crc8 b0 b1).toNat))

/-- R64. -/
def Obligations.ChecksumVerifyResult : Prop :=
  (∀ a : Arg, decode { op := 0x02#8, arg := a } =
    .ok (.crc8Verify (a.extractLsb' 64 8) (a.extractLsb' 56 8) (a.extractLsb' 48 8))) ∧
  ∀ (b0 b1 c : Byte) (s : State),
    (crc8 b0 b1 = c → exec (.crc8Verify b0 b1 c) s = .next (State.afterOk { s with crc := crc8 b0 b1 } 0#48)) ∧
    (crc8 b0 b1 ≠ c → exec (.crc8Verify b0 b1 c) s =
      .next (State.afterMismatch { s with crc := crc8 b0 b1 } (crc8 b0 b1) c 0#2))

/-- R65. -/
def Obligations.WordPackResult : Prop :=
  (∀ a : Arg, decode { op := 0x03#8, arg := a } = .ok (.wordPack (a.extractLsb' 56 16))) ∧
  ∀ (w : Word) (s : State), ∃ c : Byte, c = crc8 (BitVec.ofNat 8 (w.toNat / 256)) (BitVec.ofNat 8 (w.toNat % 256)) ∧
    exec (.wordPack w) s =
      .next (State.afterOk { s with crc := c } (BitVec.ofNat 48 (w.toNat * 256 + c.toNat)))

/-- R66. -/
def Obligations.WordUnpackResult : Prop :=
  (∀ a : Arg, decode { op := 0x04#8, arg := a } =
    .ok (.wordUnpack (a.extractLsb' 64 8) (a.extractLsb' 56 8) (a.extractLsb' 48 8))) ∧
  ∀ (b0 b1 c : Byte) (s : State),
    (crc8 b0 b1 = c → exec (.wordUnpack b0 b1 c) s =
      .next (State.afterOk { s with crc := crc8 b0 b1 } (BitVec.ofNat 48 (256 * b0.toNat + b1.toNat)))) ∧
    (crc8 b0 b1 ≠ c → exec (.wordUnpack b0 b1 c) s =
      .next (State.afterMismatch { s with crc := crc8 b0 b1 } (crc8 b0 b1) c 0#2))

/-- R67: all three groups verify, or the failing group with the lowest index is reported and `CRC` holds its
checksum. -/
def Obligations.WordThreeUnpackResult : Prop :=
  (∀ a : Arg, decode { op := 0x05#8, arg := a } =
    .ok (.word3Unpack { b0 := a.extractLsb' 64 8, b1 := a.extractLsb' 56 8, c := a.extractLsb' 48 8 }
      { b0 := a.extractLsb' 40 8, b1 := a.extractLsb' 32 8, c := a.extractLsb' 24 8 }
      { b0 := a.extractLsb' 16 8, b1 := a.extractLsb' 8 8, c := a.extractLsb' 0 8 })) ∧
  ∀ (g0 g1 g2 : ByteGroup) (s : State),
    exec (.word3Unpack g0 g1 g2) s =
      if crc8 g0.b0 g0.b1 ≠ g0.c then
        .next (State.afterMismatch { s with crc := crc8 g0.b0 g0.b1 } (crc8 g0.b0 g0.b1) g0.c 0#2)
      else if crc8 g1.b0 g1.b1 ≠ g1.c then
        .next (State.afterMismatch { s with crc := crc8 g1.b0 g1.b1 } (crc8 g1.b0 g1.b1) g1.c 1#2)
      else if crc8 g2.b0 g2.b1 ≠ g2.c then
        .next (State.afterMismatch { s with crc := crc8 g2.b0 g2.b1 } (crc8 g2.b0 g2.b1) g2.c 2#2)
      else
        .next (State.afterOk { s with crc := crc8 g2.b0 g2.b1 }
          (BitVec.ofNat 48 ((256 * g0.b0.toNat + g0.b1.toNat) * 2 ^ 32 + (256 * g1.b0.toNat + g1.b1.toNat) * 2 ^ 16 +
            (256 * g2.b0.toNat + g2.b1.toNat))))

/-- R68, which the spec derives from R64 to R66: the computed checksum verifies, its complement does not, and
unpacking the three bytes that packing a word gave returns the word. -/
def Obligations.VerifyAcceptsComputedChecksum : Prop :=
  (∀ (b0 b1 : Byte) (s : State), ∃ t u,
    exec (.crc8Verify b0 b1 (crc8 b0 b1)) s = .next t ∧ t.st = 0x00#8 ∧
    exec (.crc8Verify b0 b1 (crc8 b0 b1 ^^^ 0xFF#8)) s = .next u ∧ u.st = 0x01#8 ∧
      u.act = crc8 b0 b1 ∧ u.exp = u.act ^^^ 0xFF#8) ∧
  (∀ (w : Word) (s : State), ∃ t u, exec (.wordPack w) s = .next t ∧
    exec (.wordUnpack (t.res.extractLsb' 16 8) (t.res.extractLsb' 8 8) (t.res.extractLsb' 0 8)) t = .next u ∧
    u.st = 0x00#8 ∧ u.res = w.setWidth 48)

/-- R11: what `CRC` holds between requests, and that no response depends on what it held. -/
def Obligations.CrcRegisterDiscipline : Prop :=
  (∀ (i : Instr) (s t : State), exec i s = .next t → i.isChecksum = false → t.crc = s.crc) ∧
  (∀ (r : Request) (s t : State), IsUnassigned r.op → serveRequest r s = .next t → t.crc = s.crc) ∧
  (∀ (b0 b1 c : Byte) (w : Word) (s t : State),
    (exec (.crc8Compute b0 b1) s = .next t ∨ exec (.crc8Verify b0 b1 c) s = .next t ∨
      exec (.wordUnpack b0 b1 c) s = .next t → t.crc = crc8 b0 b1) ∧
    (exec (.wordPack w) s = .next t → t.crc = crc8 (w.extractLsb' 8 8) (w.extractLsb' 0 8))) ∧
  (∀ (g0 g1 g2 : ByteGroup) (s t : State), exec (.word3Unpack g0 g1 g2) s = .next t →
    (t.st = 0x00#8 → t.crc = crc8 g2.b0 g2.b1) ∧
    (t.st = 0x01#8 → t.crc = ([crc8 g0.b0 g0.b1, crc8 g1.b0 g1.b1, crc8 g2.b0 g2.b1].getD t.grp.toNat 0#8))) ∧
  (∀ (r : Request) (s : State) (c : Byte), ∃ t u, serveRequest r s = .next t ∧
    serveRequest r { s with crc := c } = .next u ∧ t.response = u.response)

/-! ### Word to quantity -/

/-- R81. -/
def Obligations.CarbonDioxideFromWordResult : Prop :=
  (∀ a : Arg, decode { op := 0x10#8, arg := a } = .ok (.cvtCo2Fromw (a.extractLsb' 56 16))) ∧
  ∀ (w : Word) (s : State), exec (.cvtCo2Fromw w) s = .next (s.afterOk (BitVec.ofNat 48 w.toNat))

/-- R82: the result is the binary32 value equal to the exact rational value of the formula. -/
def Obligations.TemperatureFromWordResult : Prop :=
  (∀ a : Arg, decode { op := 0x11#8, arg := a } = .ok (.cvtTempFromw (a.extractLsb' 56 16))) ∧
  ∀ (w : Word) (s : State), ∃ x : F32,
    exec (.cvtTempFromw w) s = .next (s.afterOk (BitVec.ofNat 48 x.toNat)) ∧ IsNormalOrZero x ∧
    realOf x = -45 + 175 * (w.toNat : ℚ) / 65536

/-- R83. -/
def Obligations.HumidityFromWordResult : Prop :=
  (∀ a : Arg, decode { op := 0x12#8, arg := a } = .ok (.cvtRhFromw (a.extractLsb' 56 16))) ∧
  ∀ (w : Word) (s : State), ∃ x : F32,
    exec (.cvtRhFromw w) s = .next (s.afterOk (BitVec.ofNat 48 x.toNat)) ∧ IsNormalOrZero x ∧
    realOf x = 100 * (w.toNat : ℚ) / 65536

/-- R84. -/
def Obligations.OffsetFromWordResult : Prop :=
  (∀ a : Arg, decode { op := 0x13#8, arg := a } = .ok (.cvtToffFromw (a.extractLsb' 56 16))) ∧
  ∀ (w : Word) (s : State), ∃ x : F32,
    exec (.cvtToffFromw w) s = .next (s.afterOk (BitVec.ofNat 48 x.toNat)) ∧ IsNormalOrZero x ∧
    realOf x = 175 * (w.toNat : ℚ) / 65536

/-- R85. -/
def Obligations.AltitudeFromWordResult : Prop :=
  (∀ a : Arg, decode { op := 0x14#8, arg := a } = .ok (.cvtAltFromw (a.extractLsb' 56 16))) ∧
  ∀ (w : Word) (s : State), ∃ x : F32,
    exec (.cvtAltFromw w) s = .next (s.afterOk (BitVec.ofNat 48 x.toNat)) ∧ IsNormalOrZero x ∧
    realOf x = (w.toNat : ℚ)

/-- R86: NONE for 0xFFFF, else the two's-complement pattern of `w - 32768`. -/
def Obligations.RecalibrationFromWordResult : Prop :=
  (∀ a : Arg, decode { op := 0x15#8, arg := a } = .ok (.cvtFrcFromw (a.extractLsb' 56 16))) ∧
  (∀ s : State, exec (.cvtFrcFromw 0xFFFF#16) s = .next s.afterNone) ∧
  ∀ (w : Word) (s : State), w ≠ 0xFFFF#16 → ∃ d : Word,
    exec (.cvtFrcFromw w) s = .next (s.afterOk (BitVec.ofNat 48 d.toNat)) ∧
    d.toInt = (w.toNat : ℤ) - 32768 ∧ d = w ^^^ 0x8000#16 ∧ d.toInt ≠ 32767

/-- R87: the pattern `f32q` writes, field by field, and the number it stands for; that no result is a NaN, an infinity,
a subnormal or negative zero the spec derives from R80. -/
def Obligations.FloatEncodingIsExact : Prop :=
  ∀ (n : ℤ) (s : ℕ), n.natAbs < 2 ^ 24 → s = 0 ∨ s = 16 →
    realOf (f32q n s) = (n : ℚ) / 2 ^ s ∧ IsNormalOrZero (f32q n s) ∧
    (n = 0 → f32q n s = 0x00000000#32) ∧
    (∀ k : ℕ, 2 ^ k ≤ n.natAbs → n.natAbs < 2 ^ (k + 1) →
      (f32q n s).toNat = (if n < 0 then 2 ^ 31 else 0) + (127 + k - s) * 2 ^ 23 + (n.natAbs * 2 ^ (23 - k) - 2 ^ 23))

/-- R88, which the spec derives from R80 and R82 to R85: each float-valued conversion is strictly increasing in the
word, with the ranges of R88, and temperature is temperature offset less 45. -/
def Obligations.FromWordStrictlyIncreasing : Prop :=
  ∀ s : State,
    (∀ w w' : Word, w.toNat < w'.toNat →
      quantityAfter (.cvtTempFromw w) s < quantityAfter (.cvtTempFromw w') s ∧
      quantityAfter (.cvtRhFromw w) s < quantityAfter (.cvtRhFromw w') s ∧
      quantityAfter (.cvtToffFromw w) s < quantityAfter (.cvtToffFromw w') s ∧
      quantityAfter (.cvtAltFromw w) s < quantityAfter (.cvtAltFromw w') s) ∧
    (quantityAfter (.cvtTempFromw 0x0000) s = -45 ∧ quantityAfter (.cvtTempFromw 0xFFFF) s = 129.9973297119140625) ∧
    (quantityAfter (.cvtRhFromw 0x0000) s = 0 ∧ quantityAfter (.cvtRhFromw 0xFFFF) s = 99.99847412109375) ∧
    (quantityAfter (.cvtToffFromw 0x0000) s = 0 ∧ quantityAfter (.cvtToffFromw 0xFFFF) s = 174.9973297119140625) ∧
    (∀ w : Word, quantityAfter (.cvtAltFromw w) s = w.toNat) ∧
    (∀ w : Word, quantityAfter (.cvtTempFromw w) s = quantityAfter (.cvtToffFromw w) s - 45)

/-! ### Quantity to word -/

/-- R106: how each of the 2^32 patterns is read. -/
def Obligations.FloatOperandReading : Prop :=
  (∀ x : F32, IsNaN x → readF32 x = .nan) ∧
  (∀ x : F32, IsInfinity x → readF32 x = .infinity (decide (2 ^ 31 ≤ x.toNat))) ∧
  (∀ x : F32, IsFinite x → ∃ n : ℤ, readF32 x = .finite n ∧ realOf x = (n : ℚ) / 2 ^ 149) ∧
  realOf 0x80000000#32 = 0 ∧
  (∀ a : Arg, (∃ i, decode { op := 0x23#8, arg := a } = .ok i) ∧ (∃ i, decode { op := 0x24#8, arg := a } = .ok i) ∧
    (∃ i, decode { op := 0x26#8, arg := a } = .ok i))

/-- D13, R4: `rn32` answers the nearest binary32 value, and of two equally near ones the one with an even
significand. Numbers are in units of 2^-149. -/
def Obligations.RoundingIsNearestEven : Prop :=
  ∀ (n : ℤ) (d : ℕ) (v : ℤ), 0 < d → rn32 n d = some v →
    ∃ x : F32, IsFinite x ∧ realOf x = (v : ℚ) / 2 ^ 149 ∧
      ∀ y : F32, IsFinite y →
        |realOf x - (n : ℚ) / d / 2 ^ 149| ≤ |realOf y - (n : ℚ) / d / 2 ^ 149| ∧
        (|realOf x - (n : ℚ) / d / 2 ^ 149| = |realOf y - (n : ℚ) / d / 2 ^ 149| → realOf x ≠ realOf y →
          fractionOf x % 2 = 0)

/-- R100: an operand is in range exactly when its integer is a word. -/
def Obligations.InRangeIffIntegerFits : Prop :=
  ∀ x : F32,
    (TruncInRange x ↔ ∃ r, truncOperand x = some r ∧ 0 ≤ r ∧ r ≤ 65535) ∧
    (OffsetInRange x ↔ ∃ r, offsetOperand x = some r ∧ 0 ≤ r ∧ r ≤ 65535)

/-- R100: the patterns of the in-range operands. -/
def Obligations.InRangePatterns : Prop :=
  ∀ x : F32,
    (TruncInRange x ↔ x.toNat ≤ 0x477FFFFF ∨ (0x80000000 ≤ x.toNat ∧ x.toNat ≤ 0xBF7FFFFF)) ∧
    (OffsetInRange x ↔ x.toNat ≤ 0x432EFFA8 ∨ (0x80000000 ≤ x.toNat ∧ x.toNat ≤ 0xBAAEFFFF))

/-- R101: out of range the outcome is OK and the word is the parameter's, for every value of the parameter. -/
def Obligations.OutOfRangeGivesParameter : Prop :=
  ∀ (x : F32) (s : State),
    (IsNaN x ∨ IsInfinity x ∨ (IsFinite x ∧ ¬ OffsetInRange x) →
      exec (.cvtToffTow x) s = .next (s.afterOk (BitVec.ofNat 48 (Config.oorWord .toff x).toNat))) ∧
    (IsNaN x ∨ IsInfinity x ∨ (IsFinite x ∧ ¬ TruncInRange x) →
      exec (.cvtAltTow x) s = .next (s.afterOk (BitVec.ofNat 48 (Config.oorWord .alt x).toNat)) ∧
      exec (.cvtPresTow x) s = .next (s.afterOk (BitVec.ofNat 48 (Config.oorWord .pres x).toNat)))

/-- R102. -/
def Obligations.CarbonDioxideToWordResult : Prop :=
  (∀ a : Arg, decode { op := 0x20#8, arg := a } = .ok (.cvtCo2Tow (a.extractLsb' 56 16))) ∧
  ∀ (p : Word) (s : State), exec (.cvtCo2Tow p) s = .next (s.afterOk (BitVec.ofNat 48 p.toNat))

/-- R103: in range, the two roundings change nothing: the word is that of exact rational arithmetic (the spec derives
this from R106 and the 24-bit significand). -/
def Obligations.OffsetToWordResult : Prop :=
  (∀ a : Arg, decode { op := 0x23#8, arg := a } = .ok (.cvtToffTow (a.extractLsb' 40 32))) ∧
  ∀ (x : F32) (s : State),
    (OffsetInRange x → ∃ w : Word, (w.toNat : ℤ) = ⌊65536 * realOf x / 175 + 1 / 2⌋ ∧
      exec (.cvtToffTow x) s = .next (s.afterOk (BitVec.ofNat 48 w.toNat))) ∧
    (¬ OffsetInRange x →
      exec (.cvtToffTow x) s = .next (s.afterOk (BitVec.ofNat 48 (Config.oorWord .toff x).toNat)))

/-- R104. -/
def Obligations.AltitudeToWordResult : Prop :=
  (∀ a : Arg, decode { op := 0x24#8, arg := a } = .ok (.cvtAltTow (a.extractLsb' 40 32))) ∧
  ∀ (x : F32) (s : State),
    (TruncInRange x → ∃ w : Word, (w.toNat : ℤ) = truncOf (realOf x) ∧
      exec (.cvtAltTow x) s = .next (s.afterOk (BitVec.ofNat 48 w.toNat))) ∧
    (¬ TruncInRange x →
      exec (.cvtAltTow x) s = .next (s.afterOk (BitVec.ofNat 48 (Config.oorWord .alt x).toNat)))

/-- R105. -/
def Obligations.PressureToWordResult : Prop :=
  (∀ a : Arg, decode { op := 0x26#8, arg := a } = .ok (.cvtPresTow (a.extractLsb' 40 32))) ∧
  ∀ (x : F32) (s : State),
    (TruncInRange x → ∃ w : Word, (w.toNat : ℤ) = truncOf (realOf x) ∧
      exec (.cvtPresTow x) s = .next (s.afterOk (BitVec.ofNat 48 w.toNat))) ∧
    (¬ TruncInRange x →
      exec (.cvtPresTow x) s = .next (s.afterOk (BitVec.ofNat 48 (Config.oorWord .pres x).toNat)))

/-- R107 (a), (b), (c): a word converted to its quantity and back is the word, for all 65536 words. -/
def Obligations.WordRoundTrips : Prop :=
  ∀ (w : Word) (s : State),
    (∃ t u, exec (.cvtToffFromw w) s = .next t ∧ exec (.cvtToffTow (t.res.setWidth 32)) t = .next u ∧
      u = s.afterOk (w.setWidth 48)) ∧
    (∃ t u, exec (.cvtAltFromw w) s = .next t ∧ exec (.cvtAltTow (t.res.setWidth 32)) t = .next u ∧
      u = s.afterOk (w.setWidth 48)) ∧
    (∃ t u, exec (.cvtCo2Fromw w) s = .next t ∧ exec (.cvtCo2Tow (t.res.setWidth 16)) t = .next u ∧
      u = s.afterOk (w.setWidth 48))

/-- R107 (d): a quantity in range converted to its word and back is the nearest multiple of 175/65536 (halves going
up), or the quantity with its fraction dropped. -/
def Obligations.QuantityRoundTrips : Prop :=
  ∀ (x : F32) (s : State),
    (OffsetInRange x → ∃ t u, exec (.cvtToffTow x) s = .next t ∧
      exec (.cvtToffFromw (t.res.setWidth 16)) t = .next u ∧
      realOf (u.res.setWidth 32) = 175 / 65536 * ⌊realOf x / (175 / 65536) + 1 / 2⌋ ∧
      |realOf (u.res.setWidth 32) - realOf x| ≤ 175 / 131072) ∧
    (TruncInRange x → ∃ t u, exec (.cvtAltTow x) s = .next t ∧
      exec (.cvtAltFromw (t.res.setWidth 16)) t = .next u ∧
      realOf (u.res.setWidth 32) = truncOf (realOf x))

/-- R108, which the spec derives from R103 to R105: over in-range operands the word is non-decreasing in the quantity,
and the two zeros give the same word. -/
def Obligations.ToWordMonotone : Prop :=
  (∀ (x y : F32) (s : State), OffsetInRange x → OffsetInRange y → realOf x ≤ realOf y →
    ∃ t u, exec (.cvtToffTow x) s = .next t ∧ exec (.cvtToffTow y) s = .next u ∧ t.res.toNat ≤ u.res.toNat) ∧
  (∀ (x y : F32) (s : State), TruncInRange x → TruncInRange y → realOf x ≤ realOf y →
    (∃ t u, exec (.cvtAltTow x) s = .next t ∧ exec (.cvtAltTow y) s = .next u ∧ t.res.toNat ≤ u.res.toNat) ∧
    (∃ t u, exec (.cvtPresTow x) s = .next t ∧ exec (.cvtPresTow y) s = .next u ∧ t.res.toNat ≤ u.res.toNat)) ∧
  (∀ s : State, exec (.cvtToffTow 0x00000000#32) s = exec (.cvtToffTow 0x80000000#32) s ∧
    exec (.cvtAltTow 0x00000000#32) s = exec (.cvtAltTow 0x80000000#32) s ∧
    exec (.cvtPresTow 0x00000000#32) s = exec (.cvtPresTow 0x80000000#32) s)

/-! ### Status and identity decoders -/

/-- R120: only the low 11 bits are tested. -/
def Obligations.DataReadyResult : Prop :=
  (∀ a : Arg, decode { op := 0x30#8, arg := a } = .ok (.decDrdy (a.extractLsb' 56 16))) ∧
  ∀ (w : Word) (s : State),
    exec (.decDrdy w) s = .next (s.afterOk (if w.toNat % 2048 ≠ 0 then 1#48 else 0#48))

/-- R121. -/
def Obligations.SelfTestResult : Prop :=
  (∀ a : Arg, decode { op := 0x31#8, arg := a } = .ok (.decSelftest (a.extractLsb' 56 16))) ∧
  ∀ (w : Word) (s : State),
    exec (.decSelftest w) s = .next (s.afterOk (if w.toNat = 0 then 1#48 else 0#48))

/-- R122. -/
def Obligations.SelfCalibrationFlagResult : Prop :=
  (∀ a : Arg, decode { op := 0x32#8, arg := a } = .ok (.decAsc (a.extractLsb' 56 16))) ∧
  ∀ (w : Word) (s : State), exec (.decAsc w) s = .next (s.afterOk (BitVec.ofNat 48 (w.toNat % 2)))

/-- R123, with DEC.ASC(ENC.ASC(e)) = e. -/
def Obligations.SelfCalibrationWordResult : Prop :=
  (∀ a : Arg, decode { op := 0x33#8, arg := a } = .ok (.encAsc (a.getLsbD 64))) ∧
  (∀ (e : Bool) (s : State), exec (.encAsc e) s = .next (s.afterOk (if e then 0x0001#48 else 0x0000#48))) ∧
  (∀ (e : Bool) (s : State), ∃ t u, exec (.encAsc e) s = .next t ∧
    exec (.decAsc (t.res.setWidth 16)) t = .next u ∧ u.res = if e then 1#48 else 0#48)

/-- R124. -/
def Obligations.SerialNumberResult : Prop :=
  (∀ a : Arg, decode { op := 0x34#8, arg := a } =
    .ok (.decSerial (a.extractLsb' 56 16) (a.extractLsb' 40 16) (a.extractLsb' 24 16))) ∧
  ∀ (w0 w1 w2 : Word) (s : State),
    exec (.decSerial w0 w1 w2) s =
      .next (s.afterOk (BitVec.ofNat 48 (w0.toNat * 2 ^ 32 + w1.toNat * 2 ^ 16 + w2.toNat)))

/-- D8: DEC.SERIAL of the three words of a verified response is what WORD3.UNPACK left in `RES`. -/
def Obligations.SerialOfUnpackedWords : Prop :=
  ∀ (g0 g1 g2 : ByteGroup) (s t : State), exec (.word3Unpack g0 g1 g2) s = .next t → t.st = 0x00#8 →
    exec (.decSerial (t.res.extractLsb' 32 16) (t.res.extractLsb' 16 16) (t.res.extractLsb' 0 16)) t =
      .next (t.afterOk t.res) ∧
    exec (.decSerial (g0.b0 ++ g0.b1) (g1.b0 ++ g1.b1) (g2.b0 ++ g2.b1)) t = .next (t.afterOk t.res)

/-! ### The worked examples of the source -/

/-- Worked values S1, S2, S5, S6, S9, S11, S13, S14 of spec/95_test_vectors.md, and the byte-order example of
R32, as the result each leaves in `RES`. -/
def Obligations.SourceWorkedExamples : Prop :=
  ∀ s : State, ∀ e ∈ ([(.crc8Compute 0xBE 0xEF, 0x92), (.crc8Compute 0xFF 0xFF, 0xAC), (.crc8Compute 0xEF 0xBE, 0xCE),
      (.decSerial 0xF896 0x9F07 0x3BBE, 273325796834238), (.cvtCo2Fromw 0x01F4, 500), (.decDrdy 0x8000, 0),
      (.cvtCo2Tow 0x01E0, 480), (.cvtFrcFromw 0x7FCE, 0xFFCE), (.cvtAltFromw 0x044C, 0x44898000),
      (.cvtAltTow 0x44F3C000, 0x079E)] : List (Instr × Nat)),
    ∃ t, exec e.1 s = .next t ∧ t.st = 0x00#8 ∧ t.res.toNat = e.2

/-! ### The machine -/

/-- R18, R39, R40: a step executes one request, decoded from its `OP` and `ARG`. That the request is the head of the
field `inputs`, and that the operation runs on the state with that head taken, is the model's choice (log 1). -/
def Obligations.StepRunsDecodedRequest : Prop :=
  ∀ (s : State) (r : Request) (rest : List HostInput) (i : Instr), s.inputs = .request r :: rest →
    decode r = .ok i → i.wf = true → step s = exec i { s with inputs := rest }

/-- R40: a table word that decodes is run by the very next step. Presenting it as the head of `inputs` (log 1) and
reading the word as one number (log 11) are the model's. -/
def Obligations.PresentedWordRunsNext : Prop :=
  ∀ (s : State) (nbits w : Nat) (i : Instr), decodeTableWord nbits w = some i →
    step (s.withFetchWord nbits w) = exec i s

/-- R151: with no request presented the block is idle and holds its registers (the model's reading, log 2). -/
def Obligations.IdleHoldsRegisters : Prop :=
  ∀ s : State, s.inputs = [] → step s = .next s

/-- R21, R160: the state after reset. -/
def Obligations.ResetValues : Prop :=
  State.reset.crc = 0xFF#8 ∧ State.reset.st = 0x00#8 ∧ State.reset.res = 0#48 ∧ State.reset.act = 0x00#8 ∧
  State.reset.exp = 0x00#8 ∧ State.reset.grp = 0#2

/-- R160, R161: reset is taken between steps, as an input of the host (the model's reading, log 3): from any state
every register takes its reset value, none is kept, and applying it again changes nothing but the inputs. -/
def Obligations.ResetTakenBetweenSteps : Prop :=
  ∀ (s : State) (rest : List HostInput), s.inputs = .reset :: rest → ∃ t,
    step s = .next t ∧ t.crc = 0xFF#8 ∧ t.st = 0x00#8 ∧ t.res = 0#48 ∧ t.act = 0x00#8 ∧ t.exp = 0x00#8 ∧
    t.grp = 0#2 ∧ t.inputs = rest ∧ step (t.present .reset) = .next t

/-- R18, R47: a step always completes, for any value of `OP` and `ARG`. That it takes exactly one item of the list
`inputs` (log 1), that a step without an input is one (log 2) and that reset is an item a step takes (log 3) are the
model's. -/
def Obligations.EveryStepCompletes : Prop :=
  ∀ s : State, ∃ t, step s = .next t ∧ t.inputs = s.inputs.tail

/-- R37: the same request twice: the second changes nothing at all. -/
def Obligations.RepeatedRequestIsIdempotent : Prop :=
  ∀ (r : Request) (s : State), ∃ t, serveRequest r s = .next t ∧ serveRequest r t = .next t

/-- R12, R44 (column "possible outcomes"): which outcome each operation can have. -/
def Obligations.OutcomesOfEachOperation : Prop :=
  ∀ (i : Instr) (s : State), ∃ t, exec i s = .next t ∧
    (t.st = 0x00#8 ∨
      (t.st = 0x01#8 ∧ ((∃ b0 b1 c, i = .crc8Verify b0 b1 c) ∨ (∃ b0 b1 c, i = .wordUnpack b0 b1 c) ∨
        (∃ g0 g1 g2, i = .word3Unpack g0 g1 g2))) ∨
      (t.st = 0x02#8 ∧ i = .cvtFrcFromw 0xFFFF#16))

/-- R12, R13, R14, R142: every step keeps a coherent state coherent, the model's idle step (log 2) and its step that
takes reset (log 3) included. -/
def Obligations.CoherenceKept : Prop :=
  ∀ s t : State, s.Coherent → step s = .next t → t.Coherent

/-- The state after reset is coherent. -/
def Obligations.ResetIsCoherent : Prop :=
  State.reset.Coherent

/-- R20, R39, R163, R169: the responses to a run of requests, from any state, are those each request would have had
alone from reset, in order. That a run stands in the list `inputs`, one item a step, and leaves it empty, is the model's
choice (log 1). -/
def Obligations.RunResponsesIgnoreHistory : Prop :=
  ∀ (rs : List Request) (s : State),
    responsesOf rs.length (s.withRun rs) = rs.flatMap (fun r => responsesOf 1 (State.reset.withRun [r])) ∧
    ∃ t, Host.Core.run core rs.length (s.withRun rs) = .next t ∧ t.inputs = []

/-- R22: the register machine answers every request, from every state, as the pure function does, which has no
registers and no rounded arithmetic. -/
def Obligations.RequestAnswersAsPureFunction : Prop :=
  ∀ (r : Request) (s : State), ∃ t, serveRequest r s = .next t ∧ t.response = answer r
end

