-- ==== Sys2Proof/Laws/Bits.lean ====
section
/-! SUPPORT. The bits of a request as numbers: bytes, words and patterns taken out of `ARG`, and the assembled `ARG` of
each format. -/

namespace Sys2Proof

theorem toNat_append_eq {w v : Nat} (x : BitVec w) (y : BitVec v) : (x ++ y).toNat = x.toNat * 2 ^ v + y.toNat := by
  rw [BitVec.toNat_append, Nat.shiftLeft_eq, Nat.mul_comm, Nat.two_pow_add_eq_or_of_lt y.isLt]

/-! ### Reading (R33, R40, R42) -/

theorem argByte_toNat (a : Arg) (i : Nat) : (argByte a i).toNat = a.toNat / 2 ^ (64 - 8 * i) % 256 := by
  simp [argByte, BitVec.extractLsb'_toNat, Nat.shiftRight_eq_div_pow]

/-- A word is sixteen consecutive bits of `ARG`. -/
theorem argWord_eq_extract (a : Arg) (i : Nat) (h : i ≤ 7) : argWord a i = a.extractLsb' (56 - 8 * i) 16 := by
  apply BitVec.eq_of_toNat_eq
  have happ := toNat_append_eq (argByte a i) (argByte a (i + 1))
  rw [argWord, happ, argByte_toNat, argByte_toNat, BitVec.extractLsb'_toNat, Nat.shiftRight_eq_div_pow]
  interval_cases i <;> simp <;> omega

/-- A binary32 operand is bits 71:40 of `ARG`. -/
theorem argFloat_eq_extract (a : Arg) : argFloat a = a.extractLsb' 40 32 := by
  apply BitVec.eq_of_toNat_eq
  have happ := toNat_append_eq (argWord a 0) (argWord a 2)
  rw [argFloat, happ, argWord_eq_extract a 0 (by omega), argWord_eq_extract a 2 (by omega)]
  simp [BitVec.extractLsb'_toNat, Nat.shiftRight_eq_div_pow]
  omega

/-- The flag is bit 64 of `ARG`. -/
theorem argFlag_eq_bit (a : Arg) : argFlag a = a.getLsbD 64 := by
  simp [argFlag, argByte]

/-! ### Writing (R42, R50) -/

theorem argOfB2_toNat (b0 b1 : Byte) : (argOfB2 b0 b1).toNat = (b0.toNat * 256 + b1.toNat) * 2 ^ 56 := by
  refine (toNat_append_eq (b0 ++ b1) 0#56).trans ?_
  rw [toNat_append_eq]
  simp

theorem argOfB3_toNat (b0 b1 c : Byte) :
    (argOfB3 b0 b1 c).toNat = ((b0.toNat * 256 + b1.toNat) * 256 + c.toNat) * 2 ^ 48 := by
  refine (toNat_append_eq (b0 ++ b1 ++ c) 0#48).trans ?_
  rw [toNat_append_eq, toNat_append_eq]
  simp

theorem argOfW_toNat (w : Word) : (argOfW w).toNat = w.toNat * 2 ^ 56 := by
  have h := toNat_append_eq w 0#56
  simpa [argOfW] using h

theorem argOfW3_toNat (w0 w1 w2 : Word) :
    (argOfW3 w0 w1 w2).toNat = ((w0.toNat * 2 ^ 16 + w1.toNat) * 2 ^ 16 + w2.toNat) * 2 ^ 24 := by
  refine (toNat_append_eq (w0 ++ w1 ++ w2) 0#24).trans ?_
  rw [toNat_append_eq, toNat_append_eq]
  simp

theorem argOfF_toNat (x : F32) : (argOfF x).toNat = x.toNat * 2 ^ 40 := by
  have h := toNat_append_eq x 0#40
  simpa [argOfF] using h

end Sys2Proof
end

