-- ==== Sys2Proof/Laws/Numbers.lean ====
section
/-! SUPPORT. The functions of Machine/Operands.lean, said once each: the fields of a pattern, division to the nearest
even integer, rounding to binary32 of what needs none, and rounding to an integer. -/

namespace Sys2Proof
namespace Machine

/-! ### The fields of a pattern (R106) -/

theorem expField_eq_exponentOf (x : F32) : expField x = exponentOf x := by
  simp [expField, exponentOf, BitVec.extractLsb'_toNat, Nat.shiftRight_eq_div_pow]

theorem fracField_eq_fractionOf (x : F32) : fracField x = fractionOf x := by
  simp [fracField, fractionOf, BitVec.extractLsb'_toNat]

theorem fracField_lt (x : F32) : fracField x < 2 ^ 23 := (x.extractLsb' 0 23).isLt

theorem expField_lt (x : F32) : expField x < 256 := (x.extractLsb' 23 8).isLt

theorem getLsbD_31_iff (x : F32) : x.getLsbD 31 = decide (2 ^ 31 ≤ x.toNat) := by
  have hx := x.isLt
  rw [BitVec.getLsbD, Nat.testBit, Nat.shiftRight_eq_div_pow, Nat.one_and_eq_mod_two]
  by_cases h : 2 ^ 31 ≤ x.toNat
  · rw [decide_eq_true h, show x.toNat / 2 ^ 31 = 1 by omega]
    rfl
  · rw [decide_eq_false h, show x.toNat / 2 ^ 31 = 0 by omega]
    rfl

/-- A finite pattern is read as an integer count of 2^-149, below 2^128. -/
theorem readF32_of_finite {x : F32} (h : IsFinite x) : readF32 x = .finite (signed x (scaledMagnitude x)) :=
  if_neg (by rwa [expField_eq_exponentOf])

theorem readF32_of_exponent_ones {x : F32} (h : exponentOf x = 255) :
    readF32 x = if fractionOf x = 0 then .infinity (x.getLsbD 31) else .nan := by
  rw [readF32, if_pos (by rwa [expField_eq_exponentOf]), fracField_eq_fractionOf]

/-! ### Rounding -/

/-- The rounded quotient is within half the divisor. -/
theorem divNearestEven_spec (a b : Nat) (hb : 0 < b) :
    2 * (divNearestEven a b * b) ≤ 2 * a + b ∧ 2 * a ≤ 2 * (divNearestEven a b * b) + b := by
  have hd := Nat.div_add_mod a b
  have hm := Nat.mod_lt a hb
  rw [Nat.mul_comm] at hd
  unfold divNearestEven
  split_ifs with h
  · rw [Nat.add_mul, Nat.one_mul]
    omega
  · omega

/-- What divides without a remainder is not rounded. -/
theorem divNearestEven_mul_right (q b : Nat) (hb : 0 < b) : divNearestEven (q * b) b = q := by
  simp [divNearestEven, Nat.mul_mod_left, Nat.mul_div_cancel q hb, hb.ne]

theorem ulpScaled_pos (m : Nat) : 0 < ulpScaled m := Nat.two_pow_pos _

/-- A significand of at most 24 bits, at any scale, is a multiple of its ulp. -/
theorem ulpScaled_dvd (m j : Nat) (hm : m < 2 ^ 24) : ulpScaled (m * 2 ^ j) ∣ m * 2 ^ j := by
  rcases Nat.eq_zero_or_pos m with rfl | hpos
  · simp
  · refine Dvd.dvd.mul_left (Nat.pow_dvd_pow 2 ?_) m
    have hlt : m * 2 ^ j < 2 ^ (24 + j) := by
      rw [Nat.pow_add]
      exact Nat.mul_lt_mul_of_pos_right hm (Nat.two_pow_pos j)
    have hne : m * 2 ^ j ≠ 0 := (Nat.mul_pos hpos (Nat.two_pow_pos j)).ne'
    have hlog := (Nat.log2_lt hne).2 hlt
    omega

/-- A value with a significand of at most 24 bits, below 2^128, is a binary32 value and is not rounded. -/
theorem rn32_exact (n : Int) (d m j : Nat) (hd : 0 < d) (hm : m < 2 ^ 24) (hn : n.natAbs = m * 2 ^ j * d)
    (hlt : m * 2 ^ j < 2 ^ 128 * 2 ^ 149) : rn32 n d = some (n.sign * ((m * 2 ^ j : Nat) : Int)) := by
  obtain ⟨q, hq⟩ := ulpScaled_dvd m j hm
  have hu := ulpScaled_pos (m * 2 ^ j)
  have hdiv : n.natAbs / d = m * 2 ^ j := by rw [hn, Nat.mul_div_cancel _ hd]
  have hsplit : m * 2 ^ j * d = q * (d * ulpScaled (m * 2 ^ j)) := by
    calc m * 2 ^ j * d = ulpScaled (m * 2 ^ j) * q * d := by rw [← hq]
      _ = q * (d * ulpScaled (m * 2 ^ j)) := by ring
  have hround : divNearestEven n.natAbs (d * ulpScaled (m * 2 ^ j)) = q := by
    rw [hn, hsplit]
    exact divNearestEven_mul_right q _ (Nat.mul_pos hd hu)
  have hval : q * ulpScaled (m * 2 ^ j) = m * 2 ^ j := by rw [Nat.mul_comm, ← hq]
  simp only [rn32, hdiv, hround, hval]
  exact if_pos hlt

/-- Rounding to an integer keeps the sign and rounds the magnitude, a half going up. -/
theorem roundAwayScaled_of_nonneg {n : Int} (h : 0 ≤ n) :
    roundAwayScaled n = ((2 * n.natAbs + 2 ^ 149) / 2 ^ 150 : Nat) := by
  rcases h.lt_or_eq with hpos | rfl
  · rw [roundAwayScaled, Int.sign_eq_one_of_pos hpos, one_mul]
  · decide

end Machine
end Sys2Proof
end

