-- ==== Sys2Proof/Laws/State.lean ====
section
/-! SUPPORT. One lemma per register per update of the state, true by unfolding, so that no later proof unfolds a record
update. -/

namespace Sys2Proof
namespace Machine

variable (s : State)

@[simp] theorem State.respond_crc (o : Status) (v : Result) (a e : Byte) (g : BitVec 2) : (s.respond o v a e g).crc = s.crc := rfl
@[simp] theorem State.respond_st (o : Status) (v : Result) (a e : Byte) (g : BitVec 2) : (s.respond o v a e g).st = statusCode o := rfl
@[simp] theorem State.respond_res (o : Status) (v : Result) (a e : Byte) (g : BitVec 2) : (s.respond o v a e g).res = v := rfl
@[simp] theorem State.respond_act (o : Status) (v : Result) (a e : Byte) (g : BitVec 2) : (s.respond o v a e g).act = a := rfl
@[simp] theorem State.respond_exp (o : Status) (v : Result) (a e : Byte) (g : BitVec 2) : (s.respond o v a e g).exp = e := rfl
@[simp] theorem State.respond_grp (o : Status) (v : Result) (a e : Byte) (g : BitVec 2) : (s.respond o v a e g).grp = g := rfl
@[simp] theorem State.respond_inputs (o : Status) (v : Result) (a e : Byte) (g : BitVec 2) : (s.respond o v a e g).inputs = s.inputs := rfl

@[simp] theorem State.respondOk_crc (v : Result) : (s.respondOk v).crc = s.crc := rfl
@[simp] theorem State.respondOk_st (v : Result) : (s.respondOk v).st = 0x00#8 := rfl
@[simp] theorem State.respondOk_res (v : Result) : (s.respondOk v).res = v := rfl
@[simp] theorem State.respondOk_act (v : Result) : (s.respondOk v).act = 0#8 := rfl
@[simp] theorem State.respondOk_exp (v : Result) : (s.respondOk v).exp = 0#8 := rfl
@[simp] theorem State.respondOk_grp (v : Result) : (s.respondOk v).grp = 0#2 := rfl
@[simp] theorem State.respondOk_inputs (v : Result) : (s.respondOk v).inputs = s.inputs := rfl

@[simp] theorem State.raiseChecksumMismatch_crc (a e : Byte) (g : BitVec 2) : (s.raiseChecksumMismatch a e g).crc = s.crc := rfl
@[simp] theorem State.raiseChecksumMismatch_st (a e : Byte) (g : BitVec 2) : (s.raiseChecksumMismatch a e g).st = 0x01#8 := rfl
@[simp] theorem State.raiseChecksumMismatch_res (a e : Byte) (g : BitVec 2) : (s.raiseChecksumMismatch a e g).res = 0#48 := rfl
@[simp] theorem State.raiseChecksumMismatch_act (a e : Byte) (g : BitVec 2) : (s.raiseChecksumMismatch a e g).act = a := rfl
@[simp] theorem State.raiseChecksumMismatch_exp (a e : Byte) (g : BitVec 2) : (s.raiseChecksumMismatch a e g).exp = e := rfl
@[simp] theorem State.raiseChecksumMismatch_grp (a e : Byte) (g : BitVec 2) : (s.raiseChecksumMismatch a e g).grp = g := rfl
@[simp] theorem State.raiseChecksumMismatch_inputs (a e : Byte) (g : BitVec 2) : (s.raiseChecksumMismatch a e g).inputs = s.inputs := rfl

@[simp] theorem State.respondNone_crc : s.respondNone.crc = s.crc := rfl
@[simp] theorem State.respondNone_st : s.respondNone.st = 0x02#8 := rfl
@[simp] theorem State.respondNone_res : s.respondNone.res = 0#48 := rfl
@[simp] theorem State.respondNone_act : s.respondNone.act = 0#8 := rfl
@[simp] theorem State.respondNone_exp : s.respondNone.exp = 0#8 := rfl
@[simp] theorem State.respondNone_grp : s.respondNone.grp = 0#2 := rfl
@[simp] theorem State.respondNone_inputs : s.respondNone.inputs = s.inputs := rfl

@[simp] theorem State.raiseIllegalOp_crc : s.raiseIllegalOp.crc = s.crc := rfl
@[simp] theorem State.raiseIllegalOp_st : s.raiseIllegalOp.st = 0xFF#8 := rfl
@[simp] theorem State.raiseIllegalOp_res : s.raiseIllegalOp.res = 0#48 := rfl
@[simp] theorem State.raiseIllegalOp_act : s.raiseIllegalOp.act = 0#8 := rfl
@[simp] theorem State.raiseIllegalOp_exp : s.raiseIllegalOp.exp = 0#8 := rfl
@[simp] theorem State.raiseIllegalOp_grp : s.raiseIllegalOp.grp = 0#2 := rfl
@[simp] theorem State.raiseIllegalOp_inputs : s.raiseIllegalOp.inputs = s.inputs := rfl

@[simp] theorem State.crcLoad_crc : s.crcLoad.crc = crcInit := rfl
@[simp] theorem State.crcLoad_st : s.crcLoad.st = s.st := rfl
@[simp] theorem State.crcLoad_res : s.crcLoad.res = s.res := rfl
@[simp] theorem State.crcLoad_act : s.crcLoad.act = s.act := rfl
@[simp] theorem State.crcLoad_exp : s.crcLoad.exp = s.exp := rfl
@[simp] theorem State.crcLoad_grp : s.crcLoad.grp = s.grp := rfl
@[simp] theorem State.crcLoad_inputs : s.crcLoad.inputs = s.inputs := rfl

@[simp] theorem State.crcFeed_crc (b : Byte) : (s.crcFeed b).crc = byteStep (s.crc ^^^ b) := rfl
@[simp] theorem State.crcFeed_st (b : Byte) : (s.crcFeed b).st = s.st := rfl
@[simp] theorem State.crcFeed_res (b : Byte) : (s.crcFeed b).res = s.res := rfl
@[simp] theorem State.crcFeed_act (b : Byte) : (s.crcFeed b).act = s.act := rfl
@[simp] theorem State.crcFeed_exp (b : Byte) : (s.crcFeed b).exp = s.exp := rfl
@[simp] theorem State.crcFeed_grp (b : Byte) : (s.crcFeed b).grp = s.grp := rfl
@[simp] theorem State.crcFeed_inputs (b : Byte) : (s.crcFeed b).inputs = s.inputs := rfl

@[simp] theorem State.crcFinish_crc : s.crcFinish.crc = s.crc ^^^ crcXorOut := rfl
@[simp] theorem State.crcFinish_st : s.crcFinish.st = s.st := rfl
@[simp] theorem State.crcFinish_res : s.crcFinish.res = s.res := rfl
@[simp] theorem State.crcFinish_act : s.crcFinish.act = s.act := rfl
@[simp] theorem State.crcFinish_exp : s.crcFinish.exp = s.exp := rfl
@[simp] theorem State.crcFinish_grp : s.crcFinish.grp = s.grp := rfl
@[simp] theorem State.crcFinish_inputs : s.crcFinish.inputs = s.inputs := rfl

@[simp] theorem State.crcRun_crc (b0 b1 : Byte) : (s.crcRun b0 b1).crc = crc8 b0 b1 := rfl
@[simp] theorem State.crcRun_st (b0 b1 : Byte) : (s.crcRun b0 b1).st = s.st := rfl
@[simp] theorem State.crcRun_res (b0 b1 : Byte) : (s.crcRun b0 b1).res = s.res := rfl
@[simp] theorem State.crcRun_act (b0 b1 : Byte) : (s.crcRun b0 b1).act = s.act := rfl
@[simp] theorem State.crcRun_exp (b0 b1 : Byte) : (s.crcRun b0 b1).exp = s.exp := rfl
@[simp] theorem State.crcRun_grp (b0 b1 : Byte) : (s.crcRun b0 b1).grp = s.grp := rfl
@[simp] theorem State.crcRun_inputs (b0 b1 : Byte) : (s.crcRun b0 b1).inputs = s.inputs := rfl

@[simp] theorem State.dropInput_crc : s.dropInput.crc = s.crc := rfl
@[simp] theorem State.dropInput_st : s.dropInput.st = s.st := rfl
@[simp] theorem State.dropInput_res : s.dropInput.res = s.res := rfl
@[simp] theorem State.dropInput_act : s.dropInput.act = s.act := rfl
@[simp] theorem State.dropInput_exp : s.dropInput.exp = s.exp := rfl
@[simp] theorem State.dropInput_grp : s.dropInput.grp = s.grp := rfl
@[simp] theorem State.dropInput_inputs : s.dropInput.inputs = s.inputs.tail := rfl

@[simp] theorem State.present_crc (i : HostInput) : (s.present i).crc = s.crc := rfl
@[simp] theorem State.present_st (i : HostInput) : (s.present i).st = s.st := rfl
@[simp] theorem State.present_res (i : HostInput) : (s.present i).res = s.res := rfl
@[simp] theorem State.present_act (i : HostInput) : (s.present i).act = s.act := rfl
@[simp] theorem State.present_exp (i : HostInput) : (s.present i).exp = s.exp := rfl
@[simp] theorem State.present_grp (i : HostInput) : (s.present i).grp = s.grp := rfl
@[simp] theorem State.present_inputs (i : HostInput) : (s.present i).inputs = i :: s.inputs := rfl

@[simp] theorem State.takeReset_crc : s.takeReset.crc = 0xFF#8 := rfl
@[simp] theorem State.takeReset_st : s.takeReset.st = 0x00#8 := rfl
@[simp] theorem State.takeReset_res : s.takeReset.res = 0#48 := rfl
@[simp] theorem State.takeReset_act : s.takeReset.act = 0#8 := rfl
@[simp] theorem State.takeReset_exp : s.takeReset.exp = 0#8 := rfl
@[simp] theorem State.takeReset_grp : s.takeReset.grp = 0#2 := rfl
@[simp] theorem State.takeReset_inputs : s.takeReset.inputs = s.inputs := rfl

@[simp] theorem State.response_st : s.response.st = s.st := rfl
@[simp] theorem State.response_res : s.response.res = s.res := rfl
@[simp] theorem State.response_act : s.response.act = s.act := rfl
@[simp] theorem State.response_exp : s.response.exp = s.exp := rfl
@[simp] theorem State.response_grp : s.response.grp = s.grp := rfl
@[simp] theorem State.idle_eq : s.idle = s := rfl

end Machine
end Sys2Proof
end

