-- ==== Sys2Proof/Laws/Ops.lean ====
section
/-! SUPPORT. What each shared operation can do, said once: the running CRC register, the check of a group, the integer
of a quantity-to-word conversion, and one step. -/

namespace Sys2Proof
namespace Machine

/-! ### Responses -/

theorem State.respondOk_eq_afterOk (s : State) (v : Result) : s.respondOk v = s.afterOk v := rfl

theorem State.raiseChecksumMismatch_eq_afterMismatch (s : State) (act exp : Byte) (grp : BitVec 2) :
    s.raiseChecksumMismatch act exp grp = s.afterMismatch act exp grp := rfl

theorem State.respondNone_eq_afterNone (s : State) : s.respondNone = s.afterNone := rfl

theorem State.raiseIllegalOp_eq_afterIllegal (s : State) : s.raiseIllegalOp = s.afterIllegal := rfl

/-! ### The running CRC register -/

/-- An evaluation changes `CRC` alone, to the checksum of its payload, whatever `CRC` held (R11). -/
theorem State.crcRun_eq (s : State) (b0 b1 : Byte) : s.crcRun b0 b1 = { s with crc := crc8 b0 b1 } := rfl

theorem State.verifyGroup_of_match (s : State) (grp : BitVec 2) (g : ByteGroup) (k : State → State)
    (h : crc8 g.b0 g.b1 = g.c) : s.verifyGroup grp g k = k { s with crc := crc8 g.b0 g.b1 } :=
  if_pos h

theorem State.verifyGroup_of_mismatch (s : State) (grp : BitVec 2) (g : ByteGroup) (k : State → State)
    (h : crc8 g.b0 g.b1 ≠ g.c) :
    s.verifyGroup grp g k = State.afterMismatch { s with crc := crc8 g.b0 g.b1 } (crc8 g.b0 g.b1) g.c grp :=
  if_neg h

/-- Everything the check of a group can do. -/
theorem State.verifyGroup_cases (s : State) (grp : BitVec 2) (g : ByteGroup) (k : State → State) :
    (crc8 g.b0 g.b1 = g.c ∧ s.verifyGroup grp g k = k { s with crc := crc8 g.b0 g.b1 }) ∨
    (crc8 g.b0 g.b1 ≠ g.c ∧
      s.verifyGroup grp g k = State.afterMismatch { s with crc := crc8 g.b0 g.b1 } (crc8 g.b0 g.b1) g.c grp) := by
  by_cases h : crc8 g.b0 g.b1 = g.c
  · exact .inl ⟨h, s.verifyGroup_of_match grp g k h⟩
  · exact .inr ⟨h, s.verifyGroup_of_mismatch grp g k h⟩

/-! ### The integer of a quantity-to-word conversion -/

theorem wordInRange_of_mem {n : Int} (h0 : 0 ≤ n) (h1 : n ≤ 65535) (oor : Word) :
    wordInRange (some n) oor = BitVec.ofInt 16 n :=
  if_pos ⟨h0, h1⟩

theorem wordInRange_of_not_mem {n : Int} (h : n < 0 ∨ 65535 < n) (oor : Word) : wordInRange (some n) oor = oor :=
  if_neg (by omega)

/-- Everything the range test can do. -/
theorem wordInRange_cases (r : Option Int) (oor : Word) :
    (∃ n, r = some n ∧ 0 ≤ n ∧ n ≤ 65535 ∧ wordInRange r oor = BitVec.ofInt 16 n) ∨
    ((∀ n, r = some n → n < 0 ∨ 65535 < n) ∧ wordInRange r oor = oor) := by
  cases r with
  | none => exact .inr ⟨fun _ h => (Option.some_ne_none _ h.symm).elim, rfl⟩
  | some n =>
    by_cases h : 0 ≤ n ∧ n ≤ 65535
    · exact .inl ⟨n, rfl, h.1, h.2, wordInRange_of_mem h.1 h.2 oor⟩
    · refine .inr ⟨fun m hm => ?_, wordInRange_of_not_mem (by omega) oor⟩
      cases hm
      omega

/-! ### One step -/

theorem serveRequest_of_decode {r : Request} {i : Instr} (h : decode r = .ok i) (s : State) :
    serveRequest r s = exec i s := by
  simp [serveRequest, h]

theorem serveRequest_of_illegal {r : Request} {e : DecodeError} (h : decode r = .error e) (s : State) :
    serveRequest r s = .next s.raiseIllegalOp := by
  simp [serveRequest, h]

/-- Everything one step can do: nothing is presented, or reset is taken, or one request is served. -/
theorem step_cases (s : State) :
    (s.inputs = [] ∧ step s = .next s) ∨
    (∃ rest, s.inputs = .reset :: rest ∧ step s = .next { State.reset with inputs := rest }) ∨
    (∃ r rest, s.inputs = .request r :: rest ∧ step s = serveRequest r { s with inputs := rest }) := by
  obtain ⟨crc, st, res, act, exp, grp, inputs⟩ := s
  match inputs with
  | [] => exact .inl ⟨rfl, rfl⟩
  | .reset :: rest => exact .inr (.inl ⟨rest, rfl, rfl⟩)
  | .request r :: rest => exact .inr (.inr ⟨r, rest, rfl, rfl⟩)

end Machine
end Sys2Proof
end

