-- ==== Sys2Proof/Laws/PerInstr.lean ====
section
/-! SUPPORT. The family `Assembled`: the request of every operation has zero in every bit its format does not read
(spec/30_encoding.md R50), one lemma per constructor. -/

namespace Sys2Proof
namespace Laws
namespace Assembled

/-- "Unread bytes of `ARG` are assembled as zero" (R50). -/
def Statement (i : Instr) : Prop := (encode i).assembledAs i.format = true

/-! ### One lemma per format -/

/-- What is zero below bit `v` has no bit in a mask that covers only the bits below `v`. -/
theorem append_zero_and_mask {w v : Nat} (x : BitVec w) :
    (x ++ 0#v) &&& (0#w ++ BitVec.allOnes v) = 0#(w + v) := by
  simp [BitVec.and_append]

theorem argOfB2_assembled (b0 b1 : Byte) :
    (argOfB2 b0 b1 &&& ~~~Format.b2.readMask == 0#72) = true :=
  beq_of_eq (append_zero_and_mask (w := 16) (v := 56) (b0 ++ b1))

theorem argOfB3_assembled (b0 b1 c : Byte) :
    (argOfB3 b0 b1 c &&& ~~~Format.b3.readMask == 0#72) = true :=
  beq_of_eq (append_zero_and_mask (w := 24) (v := 48) (b0 ++ b1 ++ c))

theorem argOfW_assembled (w : Word) :
    (argOfW w &&& ~~~Format.w.readMask == 0#72) = true :=
  beq_of_eq (append_zero_and_mask (v := 56) w)

theorem argOfW3_assembled (w0 w1 w2 : Word) :
    (argOfW3 w0 w1 w2 &&& ~~~Format.w3.readMask == 0#72) = true :=
  beq_of_eq (append_zero_and_mask (w := 48) (v := 24) (w0 ++ w1 ++ w2))

theorem argOfF_assembled (x : F32) :
    (argOfF x &&& ~~~Format.f.readMask == 0#72) = true :=
  beq_of_eq (append_zero_and_mask (v := 40) x)

theorem argOfB9_assembled (g0 g1 g2 : ByteGroup) :
    (argOfB9 g0 g1 g2 &&& ~~~Format.b9.readMask == 0#72) = true :=
  beq_of_eq BitVec.and_zero

theorem argOfL_assembled (e : Bool) : (argOfL e &&& ~~~Format.l.readMask == 0#72) = true := by
  cases e <;> decide

/-! ### One lemma per constructor -/

theorem crc8Compute (b0 b1 : Byte) : Statement (.crc8Compute b0 b1) :=
  argOfB2_assembled b0 b1

theorem crc8Verify (b0 b1 c : Byte) : Statement (.crc8Verify b0 b1 c) :=
  argOfB3_assembled b0 b1 c

theorem wordPack (w : Word) : Statement (.wordPack w) :=
  argOfW_assembled w

theorem wordUnpack (b0 b1 c : Byte) : Statement (.wordUnpack b0 b1 c) :=
  argOfB3_assembled b0 b1 c

theorem word3Unpack (g0 g1 g2 : ByteGroup) : Statement (.word3Unpack g0 g1 g2) :=
  argOfB9_assembled g0 g1 g2

theorem cvtCo2Fromw (w : Word) : Statement (.cvtCo2Fromw w) :=
  argOfW_assembled w

theorem cvtTempFromw (w : Word) : Statement (.cvtTempFromw w) :=
  argOfW_assembled w

theorem cvtRhFromw (w : Word) : Statement (.cvtRhFromw w) :=
  argOfW_assembled w

theorem cvtToffFromw (w : Word) : Statement (.cvtToffFromw w) :=
  argOfW_assembled w

theorem cvtAltFromw (w : Word) : Statement (.cvtAltFromw w) :=
  argOfW_assembled w

theorem cvtFrcFromw (w : Word) : Statement (.cvtFrcFromw w) :=
  argOfW_assembled w

theorem cvtCo2Tow (w : Word) : Statement (.cvtCo2Tow w) :=
  argOfW_assembled w

theorem cvtToffTow (x : F32) : Statement (.cvtToffTow x) :=
  argOfF_assembled x

theorem cvtAltTow (x : F32) : Statement (.cvtAltTow x) :=
  argOfF_assembled x

theorem cvtPresTow (x : F32) : Statement (.cvtPresTow x) :=
  argOfF_assembled x

theorem decDrdy (w : Word) : Statement (.decDrdy w) :=
  argOfW_assembled w

theorem decSelftest (w : Word) : Statement (.decSelftest w) :=
  argOfW_assembled w

theorem decAsc (w : Word) : Statement (.decAsc w) :=
  argOfW_assembled w

theorem encAsc (e : Bool) : Statement (.encAsc e) :=
  argOfL_assembled e

theorem decSerial (w0 w1 w2 : Word) : Statement (.decSerial w0 w1 w2) :=
  argOfW3_assembled w0 w1 w2

end Assembled
end Laws
end Sys2Proof
end

