-- ==== Sys2Proof/Tests/Slice0.lean ====
section
/-! SUPPORT. The model's own tests: the ill-formed requests the check refuses, one word per operation decoded, results
of the spec's vectors (spec/95_test_vectors.md, by section), and witnesses that the statements' hypotheses can be met. -/

namespace Sys2Proof
namespace Tests

open Sys2Proof.Machine

/-! ### Well-formedness: an unread bit that is not zero (R50) -/

theorem test_b2_unread_bit_refused : Request.assembledAs .b2 { op := 0x01#8, arg := 0x010000000000#72 } = false := by decide

theorem test_b3_unread_bit_refused : Request.assembledAs .b3 { op := 0x02#8, arg := 0x000000000001#72 } = false := by decide

theorem test_w_unread_bit_refused : Request.assembledAs .w { op := 0x03#8, arg := 0x000000000080#72 } = false := by decide

theorem test_w3_unread_bit_refused : Request.assembledAs .w3 { op := 0x34#8, arg := 0x800000#72 } = false := by decide

theorem test_f_unread_bit_refused : Request.assembledAs .f { op := 0x24#8, arg := 0x8000000000#72 } = false := by decide

theorem test_l_unread_bit_refused : Request.assembledAs .l { op := 0x33#8, arg := 0x020000000000000000#72 } = false := by decide

/-- Format `B9` reads every bit, so no request of it is ill-formed. -/
theorem test_b9_reads_everything : Request.assembledAs .b9 { op := 0x05#8, arg := BitVec.allOnes 72 } = true := by decide

/-- Two other lengths than the one of R40 are refused by name. -/
theorem test_nine_bytes_refused : decodeBytes [1, 2, 3, 4, 5, 6, 7, 8, 9] = .error (.notTenBytes 9) := by decide

theorem test_eleven_bytes_refused : decodeBytes [1, 2, 3, 4, 5, 6, 7, 8, 9, 10, 11] = .error (.notTenBytes 11) := by
  decide

/-- R46: "`OP = 0x00` is deliberately illegal". -/
theorem test_zero_opcode_illegal : decodeBytes [0, 0, 0, 0, 0, 0, 0, 0, 0, 0] = .error (.illegalOp 0x00) := by decide

theorem test_hole_illegal : decodeBytes [0x25, 0, 0, 0, 0, 0, 0, 0, 0, 0] = .error (.illegalOp 0x25) := by decide

/-! ### Decoding: one word per operation, written out from R42 and R44, unread bytes not zero -/

theorem test_decode_crc8Compute :
    decodeBytes [0x01, 0xBE, 0xEF, 0xAA, 0xBB, 0xCC, 0xDD, 0xEE, 0xFF, 0x11] =
      .ok (.crc8Compute 0xBE 0xEF) := by decide

theorem test_decode_crc8Verify :
    decodeBytes [0x02, 0xBE, 0xEF, 0x92, 0xBB, 0xCC, 0xDD, 0xEE, 0xFF, 0x11] =
      .ok (.crc8Verify 0xBE 0xEF 0x92) := by decide

theorem test_decode_wordPack :
    decodeBytes [0x03, 0x07, 0x9E, 0xAA, 0xBB, 0xCC, 0xDD, 0xEE, 0xFF, 0x11] =
      .ok (.wordPack 0x079E) := by decide

theorem test_decode_wordUnpack :
    decodeBytes [0x04, 0x7F, 0xCE, 0x7B, 0xBB, 0xCC, 0xDD, 0xEE, 0xFF, 0x11] =
      .ok (.wordUnpack 0x7F 0xCE 0x7B) := by decide

theorem test_decode_word3Unpack :
    decodeBytes [0x05, 0x01, 0xF4, 0x33, 0x66, 0x67, 0xA2, 0x5E, 0xB9, 0x3C] =
      .ok (.word3Unpack { b0 := 0x01, b1 := 0xF4, c := 0x33 } { b0 := 0x66, b1 := 0x67, c := 0xA2 }
        { b0 := 0x5E, b1 := 0xB9, c := 0x3C }) := by decide

theorem test_decode_cvtCo2Fromw :
    decodeBytes [0x10, 0x01, 0xF4, 0xAA, 0xBB, 0xCC, 0xDD, 0xEE, 0xFF, 0x11] =
      .ok (.cvtCo2Fromw 0x01F4) := by decide

theorem test_decode_cvtTempFromw :
    decodeBytes [0x11, 0x66, 0x67, 0xAA, 0xBB, 0xCC, 0xDD, 0xEE, 0xFF, 0x11] =
      .ok (.cvtTempFromw 0x6667) := by decide

theorem test_decode_cvtRhFromw :
    decodeBytes [0x12, 0x5E, 0xB9, 0xAA, 0xBB, 0xCC, 0xDD, 0xEE, 0xFF, 0x11] =
      .ok (.cvtRhFromw 0x5EB9) := by decide

theorem test_decode_cvtToffFromw :
    decodeBytes [0x13, 0x05, 0xDA, 0xAA, 0xBB, 0xCC, 0xDD, 0xEE, 0xFF, 0x11] =
      .ok (.cvtToffFromw 0x05DA) := by decide

theorem test_decode_cvtAltFromw :
    decodeBytes [0x14, 0x04, 0x4C, 0xAA, 0xBB, 0xCC, 0xDD, 0xEE, 0xFF, 0x11] =
      .ok (.cvtAltFromw 0x044C) := by decide

theorem test_decode_cvtFrcFromw :
    decodeBytes [0x15, 0x7F, 0xCE, 0xAA, 0xBB, 0xCC, 0xDD, 0xEE, 0xFF, 0x11] =
      .ok (.cvtFrcFromw 0x7FCE) := by decide

theorem test_decode_cvtCo2Tow :
    decodeBytes [0x20, 0x01, 0xE0, 0xAA, 0xBB, 0xCC, 0xDD, 0xEE, 0xFF, 0x11] =
      .ok (.cvtCo2Tow 0x01E0) := by decide

theorem test_decode_cvtToffTow :
    decodeBytes [0x23, 0x40, 0x80, 0x00, 0xC0, 0xCC, 0xDD, 0xEE, 0xFF, 0x11] =
      .ok (.cvtToffTow 0x408000C0) := by decide

theorem test_decode_cvtAltTow :
    decodeBytes [0x24, 0x44, 0xF3, 0xC0, 0x00, 0xCC, 0xDD, 0xEE, 0xFF, 0x11] =
      .ok (.cvtAltTow 0x44F3C000) := by decide

theorem test_decode_cvtPresTow :
    decodeBytes [0x26, 0x44, 0x7D, 0x50, 0x00, 0xCC, 0xDD, 0xEE, 0xFF, 0x11] =
      .ok (.cvtPresTow 0x447D5000) := by decide

theorem test_decode_decDrdy :
    decodeBytes [0x30, 0x80, 0x06, 0xAA, 0xBB, 0xCC, 0xDD, 0xEE, 0xFF, 0x11] =
      .ok (.decDrdy 0x8006) := by decide

theorem test_decode_decSelftest :
    decodeBytes [0x31, 0x00, 0x04, 0xAA, 0xBB, 0xCC, 0xDD, 0xEE, 0xFF, 0x11] =
      .ok (.decSelftest 0x0004) := by decide

theorem test_decode_decAsc :
    decodeBytes [0x32, 0xFF, 0xFE, 0xAA, 0xBB, 0xCC, 0xDD, 0xEE, 0xFF, 0x11] =
      .ok (.decAsc 0xFFFE) := by decide

theorem test_decode_encAsc :
    decodeBytes [0x33, 0xFE, 0xAA, 0xBB, 0xCC, 0xDD, 0xEE, 0xFF, 0x11, 0x22] =
      .ok (.encAsc false) := by decide

theorem test_decode_decSerial :
    decodeBytes [0x34, 0xF8, 0x96, 0x9F, 0x07, 0x3B, 0xBE, 0xEE, 0xFF, 0x11] =
      .ok (.decSerial 0xF896 0x9F07 0x3BBE) := by decide

/-! ### Results: one step from the start state of program 7 (spec/95_test_vectors.md section 7), which is not the reset
state -/

/-- Program 7's start state. -/
def start : State :=
  { crc := 0x5A, st := 0x01, res := 0x123456789ABC, act := 0x11, exp := 0x22, grp := 2, inputs := [] }

/-- `CRC`, `ST`, `RES`, `ACT`, `EXP`, `GRP` after operation `i` from `start`. -/
def registersAfter (i : Instr) : List Nat :=
  match exec i start with
  | .next t => [t.crc.toNat, t.st.toNat, t.res.toNat, t.act.toNat, t.exp.toNat, t.grp.toNat]
  | .fault _ => []
  | .refused _ => []

set_option maxRecDepth 8192 in
/-- Section 2.5, source vector S1. -/
theorem test_crc8Compute_source :
    registersAfter (.crc8Compute 0xBE 0xEF) = [0x92, 0, 0x92, 0, 0, 0] := by decide

set_option maxRecDepth 8192 in
/-- Section 2.5: byte order matters. -/
theorem test_crc8Compute_byte_order :
    registersAfter (.crc8Compute 0xEF 0xBE) = [0xCE, 0, 0xCE, 0, 0, 0] := by decide

set_option maxRecDepth 8192 in
/-- Section 2.5. -/
theorem test_crc8Verify_accepts :
    registersAfter (.crc8Verify 0xBE 0xEF 0x92) = [0x92, 0, 0, 0, 0, 0] := by decide

set_option maxRecDepth 8192 in
/-- Section 2.5: S4. -/
theorem test_crc8Verify_complement :
    registersAfter (.crc8Verify 0xBE 0xEF 0x6D) = [0x92, 1, 0, 0x92, 0x6D, 0] := by decide

set_option maxRecDepth 8192 in
/-- Section 2.5. -/
theorem test_wordPack_altitude :
    registersAfter (.wordPack 0x079E) = [0x09, 0, 0x079E09, 0, 0, 0] := by decide

set_option maxRecDepth 8192 in
/-- Section 2.5: frame 00 00 81. -/
theorem test_wordPack_zero :
    registersAfter (.wordPack 0x0000) = [0x81, 0, 0x000081, 0, 0, 0] := by decide

set_option maxRecDepth 8192 in
/-- Section 2.5. -/
theorem test_wordUnpack_accepts :
    registersAfter (.wordUnpack 0x7F 0xCE 0x7B) = [0x7B, 0, 0x7FCE, 0, 0, 0] := by decide

set_option maxRecDepth 8192 in
/-- Section 2.5: bad payload bit. -/
theorem test_wordUnpack_bad_payload :
    registersAfter (.wordUnpack 0x7F 0xCF 0x7B) = [0x4A, 1, 0, 0x4A, 0x7B, 0] := by decide

set_option maxRecDepth 8192 in
/-- Section 2.5: the source's sample words. -/
theorem test_word3Unpack_sample :
    registersAfter (.word3Unpack { b0 := 0x01, b1 := 0xF4, c := 0x33 } { b0 := 0x66, b1 := 0x67, c := 0xA2 }
      { b0 := 0x5E, b1 := 0xB9, c := 0x3C }) = [0x3C, 0, 0x01F466675EB9, 0, 0, 0] := by decide

set_option maxRecDepth 8192 in
/-- Section 2.5: groups 1 and 2 bad, group 1 reported. -/
theorem test_word3Unpack_first_failing :
    registersAfter (.word3Unpack { b0 := 0x01, b1 := 0xF4, c := 0x33 } { b0 := 0x66, b1 := 0x66, c := 0xA2 }
      { b0 := 0x5E, b1 := 0xB9, c := 0x3D }) = [0x93, 1, 0, 0x93, 0xA2, 1] := by decide

/-- Section 3.1. -/
theorem test_cvtCo2Fromw_top :
    registersAfter (.cvtCo2Fromw 0xFFFF) = [0x5A, 0, 0xFFFF, 0, 0, 0] := by decide

/-- Section 3.2: S7. -/
theorem test_cvtTempFromw_source :
    registersAfter (.cvtTempFromw 0x6667) = [0x5A, 0, 0x41C80348, 0, 0, 0] := by decide

/-- Section 3.2: largest negative result. -/
theorem test_cvtTempFromw_negative :
    registersAfter (.cvtTempFromw 0x41D4) = [0x5A, 0, 0xB9A00000, 0, 0, 0] := by decide

/-- Section 3.3: S8. -/
theorem test_cvtRhFromw_source :
    registersAfter (.cvtRhFromw 0x5EB9) = [0x5A, 0, 0x42140110, 0, 0, 0] := by decide

/-- Section 3.3: positive zero. -/
theorem test_cvtRhFromw_zero :
    registersAfter (.cvtRhFromw 0x0000) = [0x5A, 0, 0, 0, 0, 0] := by decide

/-- Section 3.4. -/
theorem test_cvtToffFromw_top :
    registersAfter (.cvtToffFromw 0xFFFF) = [0x5A, 0, 0x432EFF51, 0, 0, 0] := by decide

/-- Section 3.4. -/
theorem test_cvtToffFromw_step :
    registersAfter (.cvtToffFromw 0x0001) = [0x5A, 0, 0x3B2F0000, 0, 0, 0] := by decide

/-- Section 3.5: S13. -/
theorem test_cvtAltFromw_source :
    registersAfter (.cvtAltFromw 0x044C) = [0x5A, 0, 0x44898000, 0, 0, 0] := by decide

/-- Section 3.5. -/
theorem test_cvtAltFromw_top :
    registersAfter (.cvtAltFromw 0xFFFF) = [0x5A, 0, 0x477FFF00, 0, 0, 0] := by decide

/-- Section 3.6: S11. -/
theorem test_cvtFrcFromw_source :
    registersAfter (.cvtFrcFromw 0x7FCE) = [0x5A, 0, 0xFFCE, 0, 0, 0] := by decide

/-- Section 3.6: S12. -/
theorem test_cvtFrcFromw_none :
    registersAfter (.cvtFrcFromw 0xFFFF) = [0x5A, 2, 0, 0, 0, 0] := by decide

/-- Section 4.1: S11. -/
theorem test_cvtCo2Tow_source :
    registersAfter (.cvtCo2Tow 0x01E0) = [0x5A, 0, 0x01E0, 0, 0, 0] := by decide

/-- Section 4.2: a tie goes away from zero (D15). -/
theorem test_cvtToffTow_tie :
    registersAfter (.cvtToffTow 0x3AAF0000) = [0x5A, 0, 1, 0, 0, 0] := by decide

/-- Section 4.2: the largest in-range pattern. -/
theorem test_cvtToffTow_largest :
    registersAfter (.cvtToffTow 0x432EFFA8) = [0x5A, 0, 0xFFFF, 0, 0, 0] := by decide

/-- Section 4.3: 1950.9 truncates. -/
theorem test_cvtAltTow_truncates :
    registersAfter (.cvtAltTow 0x44F3DCCD) = [0x5A, 0, 0x079E, 0, 0, 0] := by decide

/-- Section 4.3: the most negative in-range pattern (D27). -/
theorem test_cvtAltTow_negative :
    registersAfter (.cvtAltTow 0xBF7FFFFF) = [0x5A, 0, 0, 0, 0, 0] := by decide

/-- Section 4.3: 1013.25. -/
theorem test_cvtPresTow_fraction :
    registersAfter (.cvtPresTow 0x447D5000) = [0x5A, 0, 0x03F5, 0, 0, 0] := by decide

/-- Section 4.3: the largest in-range pattern. -/
theorem test_cvtPresTow_largest :
    registersAfter (.cvtPresTow 0x477FFFFF) = [0x5A, 0, 0xFFFF, 0, 0, 0] := by decide

/-- Section 5: bit 10 is the top of the mask. -/
theorem test_decDrdy_mask_top :
    registersAfter (.decDrdy 0x0400) = [0x5A, 0, 1, 0, 0, 0] := by decide

/-- Section 5: all reserved bits set, still not ready. -/
theorem test_decDrdy_outside_mask :
    registersAfter (.decDrdy 0xF800) = [0x5A, 0, 0, 0, 0, 0] := by decide

/-- Section 5. -/
theorem test_decSelftest_pass :
    registersAfter (.decSelftest 0x0000) = [0x5A, 0, 1, 0, 0, 0] := by decide

/-- Section 5: no mask. -/
theorem test_decSelftest_no_mask :
    registersAfter (.decSelftest 0x8000) = [0x5A, 0, 0, 0, 0, 0] := by decide

/-- Section 5: only bit 0 counts. -/
theorem test_decAsc_only_bit0 :
    registersAfter (.decAsc 0xFFFE) = [0x5A, 0, 0, 0, 0, 0] := by decide

/-- Section 5. -/
theorem test_decAsc_enabled :
    registersAfter (.decAsc 0xFFFF) = [0x5A, 0, 1, 0, 0, 0] := by decide

/-- Section 5. -/
theorem test_encAsc_one :
    registersAfter (.encAsc true) = [0x5A, 0, 1, 0, 0, 0] := by decide

/-- Section 5: S5. -/
theorem test_decSerial_source :
    registersAfter (.decSerial 0xF896 0x9F07 0x3BBE) = [0x5A, 0, 273325796834238, 0, 0, 0] := by decide

/-! ### One step of the machine -/

/-- `CRC`, `ST`, `RES`, `ACT`, `EXP`, `GRP` and how many inputs are left after one step. -/
def registersAfterStep (s : State) : List Nat :=
  match step s with
  | .next t => [t.crc.toNat, t.st.toNat, t.res.toNat, t.act.toNat, t.exp.toNat, t.grp.toNat, t.inputs.length]
  | .fault _ => []
  | .refused _ => []

/-- Section 6, first row: `OP` 0x00 after a mismatch; `CRC` unchanged, the earlier error's detail cleared. -/
theorem test_step_illegal :
    registersAfterStep { crc := 0x93, st := 0x01, res := 0, act := 0x93, exp := 0xA2, grp := 1,
                         inputs := [.request { op := 0x00, arg := 0x01F46667A25EB93C00 }, .reset] } =
      [0x93, 0xFF, 0, 0, 0, 0, 1] := by decide

/-- Reset takes every register to its value (R160) and leaves the inputs that follow. -/
theorem test_step_reset :
    registersAfterStep { start with inputs := [.reset, .reset] } = [0xFF, 0, 0, 0, 0, 0, 1] := by decide

/-- A table word runs as the first request after reset: program 5's first line. -/
theorem test_step_first_word :
    registersAfterStep (State.reset.withFetchWord 80 0x23408000000000000000) = [0xFF, 0, 0x05DA, 0, 0, 0, 0] := by decide

set_option maxRecDepth 8192 in
/-- Program 1's first line, from its ten bytes as one number. -/
theorem test_step_word3 :
    registersAfterStep (start.withFetchWord 80 0x0501F4336667A25EB93C) = [0x3C, 0, 0x01F466675EB9, 0, 0, 0, 0] := by decide

/-! ### Witnesses: a concrete case that meets each statement's hypotheses -/

theorem test_witness_decode_after_encode : (Instr.encAsc true).wf = true := by decide

theorem test_witness_encode_after_decode :
    decode { op := 0x33, arg := 0xFF0000000000000001 } = .ok (.encAsc true) := by decide

theorem test_witness_unread_bits :
    decode { op := 0x01, arg := 0xBEEF00000000000000 } = .ok (.crc8Compute 0xBE 0xEF) ∧
    (0xBEEFAABBCCDDEEFF11#72 &&& (Instr.crc8Compute 0xBE 0xEF).format.readMask) =
      (0xBEEF00000000000000#72 &&& (Instr.crc8Compute 0xBE 0xEF).format.readMask) := by decide

/-- Both ends of every clause of R46's list. -/
theorem test_witness_unassigned :
    ∀ op ∈ [0x00#8, 0x06, 0x0F, 0x16, 0x1F, 0x21, 0x22, 0x25, 0x27, 0x2F, 0x35, 0xFF], IsUnassigned op := by decide

theorem test_witness_assigned :
    ∀ op ∈ [0x01#8, 0x05, 0x10, 0x15, 0x20, 0x23, 0x24, 0x26, 0x30, 0x34], ¬ IsUnassigned op := by decide

set_option maxRecDepth 8192 in
/-- Each of the three single-byte errors against the frame BE EF 92. -/
theorem test_witness_single_byte_error :
    crc8 0xBE 0xEF = 0x92 ∧ (0xBF#8 ≠ 0xBE#8) ∧ (0xEE#8 ≠ 0xEF#8) ∧ (0x93#8 ≠ crc8 0xBE 0xEF) := by decide

set_option maxRecDepth 8192 in
/-- A group that verifies and one that does not: CRC8.VERIFY, WORD.UNPACK and every clause of WORD3.UNPACK. -/
theorem test_witness_groups : crc8 0x7F 0xCE = 0x7B ∧ crc8 0x7F 0xCE ≠ 0x7A := by decide

/-- Every clause about `CRC` has an operation that answers a next state. -/
theorem test_witness_crc_clauses :
    (Instr.cvtCo2Fromw 0).isChecksum = false ∧
    (∃ t, exec (.cvtCo2Fromw 0) start = .next t) ∧ (∃ t, exec (.crc8Compute 0 0) start = .next t) ∧
    (∃ t, exec (.crc8Verify 0 0 0) start = .next t) ∧ (∃ t, exec (.wordUnpack 0 0 0) start = .next t) ∧
    (∃ t, exec (.wordPack 0) start = .next t) ∧
    (∃ t, serveRequest { op := 0x00, arg := 0 } start = .next t) :=
  ⟨rfl, ⟨_, rfl⟩, ⟨_, rfl⟩, ⟨_, rfl⟩, ⟨_, rfl⟩, ⟨_, rfl⟩, ⟨_, rfl⟩⟩

set_option maxRecDepth 8192 in
/-- WORD3.UNPACK ends with OK, and with CHECKSUM_MISMATCH in the first and in the third group. -/
theorem test_witness_word3_outcomes :
    registersAfter (.word3Unpack { b0 := 0, b1 := 0, c := 0x81 } { b0 := 0, b1 := 0, c := 0x81 }
      { b0 := 0, b1 := 0, c := 0x81 }) = [0x81, 0, 0, 0, 0, 0] ∧
    registersAfter (.word3Unpack { b0 := 0, b1 := 0, c := 0x81 } { b0 := 0, b1 := 0, c := 0x81 }
      { b0 := 0, b1 := 0, c := 0x80 }) = [0x81, 1, 0, 0x81, 0x80, 2] ∧
    registersAfter (.word3Unpack { b0 := 0xFF, b1 := 0xFF, c := 0 } { b0 := 0xFF, b1 := 0xFF, c := 0 }
      { b0 := 0xFF, b1 := 0xFF, c := 0 }) = [0xAC, 1, 0, 0xAC, 0, 0] := by decide

theorem test_witness_recalibration : (0xFFFE#16 ≠ 0xFFFF#16) ∧ (0x0000#16 ≠ 0xFFFF#16) := by decide

/-- The largest magnitude and both scales of `f32q`, with its top bit. -/
theorem test_witness_float_encoding :
    (-16777215 : ℤ).natAbs < 2 ^ 24 ∧ 2 ^ 23 ≤ (-16777215 : ℤ).natAbs ∧ (-16777215 : ℤ).natAbs < 2 ^ (23 + 1) ∧
    (0 : ℤ).natAbs < 2 ^ 24 := by decide

theorem test_witness_increasing : (0x0000#16).toNat < (0xFFFF#16).toNat := by decide

theorem test_witness_nan : IsNaN 0x7F800001 ∧ IsNaN 0xFFFFFFFF := by decide

theorem test_witness_infinity : IsInfinity 0x7F800000 ∧ IsInfinity 0xFF800000 := by decide

theorem test_witness_finite : IsFinite 0x00000000 ∧ IsFinite 0x7F7FFFFF ∧ IsFinite 0xFF7FFFFF := by decide

/-- The operands just beyond both ends of both ranges (refused below) are finite. -/
theorem test_witness_finite_out_of_range :
    IsFinite 0x47800000 ∧ IsFinite 0xBF800000 ∧ IsFinite 0x432EFFA9 ∧ IsFinite 0xBAAF0000 := by decide

/-- `1 / 175` (in units of 2^-149) rounds to 0, and `175 * 8 / 175` is exact. -/
theorem test_witness_rounding : rn32 1 175 = some 0 ∧ rn32 1400 175 = some 8 := by decide

/-- The first and last in-range operands of R100, both signs, and the first beyond them. -/
theorem test_witness_trunc_in_range :
    TruncInRange 0x00000000 ∧ TruncInRange 0x477FFFFF ∧ TruncInRange 0xBF7FFFFF ∧
    ¬ TruncInRange 0x47800000 ∧ ¬ TruncInRange 0xBF800000 := by
  simp [TruncInRange, IsFinite, realOf, exponentOf, fractionOf, signOf]
  norm_num

theorem test_witness_offset_in_range :
    OffsetInRange 0x00000000 ∧ OffsetInRange 0x432EFFA8 ∧ OffsetInRange 0xBAAEFFFF ∧
    ¬ OffsetInRange 0x432EFFA9 ∧ ¬ OffsetInRange 0xBAAF0000 := by
  simp [OffsetInRange, IsFinite, realOf, exponentOf, fractionOf, signOf]
  norm_num

theorem test_witness_monotone : realOf 0x3F800000 ≤ realOf 0x40800000 := by
  simp [realOf, exponentOf, fractionOf, signOf]
  norm_num

set_option maxRecDepth 8192 in
theorem test_witness_serial_of_unpacked :
    ∃ t, exec (.word3Unpack { b0 := 0, b1 := 0, c := 0x81 } { b0 := 0, b1 := 0, c := 0x81 }
      { b0 := 0, b1 := 0, c := 0x81 }) start = .next t ∧ t.st = 0x00#8 :=
  ⟨_, rfl, by decide⟩

theorem test_witness_step :
    (start.present (.request { op := 0x31, arg := 0 })).inputs = .request { op := 0x31, arg := 0 } :: [] ∧
    decode { op := 0x31, arg := 0 } = .ok (.decSelftest 0) ∧ (Instr.decSelftest 0).wf = true := by decide

theorem test_witness_presented_word :
    decodeTableWord 80 0x01BEEF00000000000000 = some (.crc8Compute 0xBE 0xEF) := by decide

theorem test_witness_idle : State.reset.inputs = [] := by decide

theorem test_witness_reset_presented : (start.present .reset).inputs = .reset :: [] := by decide

/-- A coherent state, with an error in it, that a step leaves. -/
theorem test_witness_coherent :
    State.Coherent { crc := 0x93, st := 0x01, res := 0, act := 0x93, exp := 0xA2, grp := 1, inputs := [.reset] } ∧
    State.reset.Coherent ∧ ∃ t, step State.reset = .next t :=
  ⟨by decide, by decide, _, rfl⟩

end Tests
end Sys2Proof
end

section
/-! Rounding to binary32 (D13, R4): `rn32` answers the nearest finite value, a half going to the even significand. -/

namespace Sys2Proof
namespace Machine

/-! ### A finite pattern as a count of 2^-149 -/

theorem fractionOf_lt (x : F32) : fractionOf x < 2 ^ 23 := Nat.mod_lt _ (by decide)

/-- The magnitude read by the machine, in the terms of R106. -/
theorem scaledMagnitude_eq (x : F32) :
    scaledMagnitude x =
      if exponentOf x = 0 then fractionOf x else (2 ^ 23 + fractionOf x) * 2 ^ (exponentOf x - 1) := by
  rw [scaledMagnitude, expField_eq_exponentOf, fracField_eq_fractionOf]

theorem signed_eq (x : F32) (m : Nat) : signed x m = if x.toNat < 2 ^ 31 then (m : Int) else -(m : Int) := by
  rw [signed, getLsbD_31_iff, ← ite_not]
  simp only [decide_eq_true_eq, Nat.not_le]

theorem natAbs_signed (x : F32) (m : Nat) : (signed x m).natAbs = m := by
  rw [signed]
  split <;> simp

/-- The machine's integer and R106's real number are the same number. -/
theorem realOf_eq_scaled (x : F32) : realOf x = (signed x (scaledMagnitude x) : ℚ) / 2 ^ 149 := by
  have hsign : ∀ m : Nat, ((signed x m : Int) : ℚ) = signOf x * m := fun m => by
    rw [signed_eq, signOf]
    split <;> simp
  rw [hsign, scaledMagnitude_eq, realOf]
  by_cases h : exponentOf x = 0
  · rw [if_pos h, if_pos h, zpow_neg, div_eq_mul_inv]
    rfl
  · have hexp : (exponentOf x : ℤ) - 150 = ((exponentOf x - 1 : Nat) : ℤ) - (149 : Nat) := by omega
    rw [if_neg h, if_neg h, hexp, zpow_sub₀ two_ne_zero, zpow_natCast, zpow_natCast]
    push_cast
    ring

/-- Finite values of at least 2^23 steps of 2^j are multiples of 2^j: the significand has 24 bits. -/
theorem two_pow_dvd_scaledMagnitude {x : F32} {j : Nat} (h : 2 ^ (23 + j) ≤ scaledMagnitude x) :
    2 ^ j ∣ scaledMagnitude x := by
  have hf := fractionOf_lt x
  rw [scaledMagnitude_eq] at h ⊢
  split_ifs at h ⊢ with he
  · exact absurd (Nat.pow_le_pow_right two_pos (Nat.le_add_right 23 j)) (by omega)
  · refine Dvd.dvd.mul_left (Nat.pow_dvd_pow 2 ?_) _
    have hlt : (2 ^ 23 + fractionOf x) * 2 ^ (exponentOf x - 1) < 2 ^ (24 + (exponentOf x - 1)) := by
      rw [Nat.pow_add]
      exact Nat.mul_lt_mul_of_pos_right (by omega) (Nat.two_pow_pos _)
    have := (Nat.pow_lt_pow_iff_right Nat.one_lt_two).1 (h.trans_lt hlt)
    omega

/-! ### The pattern of a rounded value -/

/-- The pattern of `t * 2^j` in units of 2^-149, for a significand `t` of at most 2^24. It carries by itself: a `t` of
2^24 gives the next exponent and the fraction 0, a `t` below 2^23 (where `j = 0`) a subnormal. -/
def patternOf (neg : Bool) (t j : Nat) : F32 := BitVec.ofNat 32 (neg.toNat * 2 ^ 31 + j * 2 ^ 23 + t)

section Pattern

-- The significands and scales of binary32, with 2^24 as the carry to the next exponent.
variable {t j : Nat} (ht : t ≤ 2 ^ 24) (hj : j = 0 ∨ 2 ^ 23 ≤ t) (hlt : t * 2 ^ j < 2 ^ 128 * 2 ^ 149)
include ht hj hlt

/-- Below 2^128 the exponent field does not reach 255. -/
theorem add_div_lt_of_mul_two_pow_lt : j + t / 2 ^ 23 < 255 := by
  rcases hj with rfl | h
  · omega
  · have hquot : 2 ^ (t / 2 ^ 23 - 1) * 2 ^ 23 ≤ t := by
      obtain h1 | h2 : t / 2 ^ 23 = 1 ∨ t / 2 ^ 23 = 2 := by omega
      · rw [h1]
        omega
      · rw [h2]
        omega
    have hpow : 2 ^ (t / 2 ^ 23 - 1 + 23 + j) < 2 ^ (128 + 149) := by
      rw [Nat.pow_add, Nat.pow_add, Nat.pow_add 2 128]
      exact (Nat.mul_le_mul_right _ hquot).trans_lt hlt
    have := (Nat.pow_lt_pow_iff_right Nat.one_lt_two).1 hpow
    omega

variable (neg : Bool)

theorem patternOf_toNat : (patternOf neg t j).toNat = neg.toNat * 2 ^ 31 + j * 2 ^ 23 + t := by
  have := add_div_lt_of_mul_two_pow_lt ht hj hlt
  have := neg.toNat_lt
  rw [patternOf, BitVec.toNat_ofNat]
  exact Nat.mod_eq_of_lt (by omega)

theorem exponentOf_patternOf : exponentOf (patternOf neg t j) = j + t / 2 ^ 23 := by
  have := add_div_lt_of_mul_two_pow_lt ht hj hlt
  have := neg.toNat_lt
  rw [exponentOf, patternOf_toNat ht hj hlt]
  omega

theorem fractionOf_patternOf : fractionOf (patternOf neg t j) = t % 2 ^ 23 := by
  rw [fractionOf, patternOf_toNat ht hj hlt]
  omega

theorem isFinite_patternOf : IsFinite (patternOf neg t j) := by
  rw [IsFinite, exponentOf_patternOf ht hj hlt]
  exact (add_div_lt_of_mul_two_pow_lt ht hj hlt).ne

theorem scaledMagnitude_patternOf : scaledMagnitude (patternOf neg t j) = t * 2 ^ j := by
  rw [scaledMagnitude_eq, exponentOf_patternOf ht hj hlt, fractionOf_patternOf ht hj hlt]
  obtain h0 | h1 | rfl : t < 2 ^ 23 ∨ t / 2 ^ 23 = 1 ∨ t = 2 ^ 24 := by omega
  · obtain rfl : j = 0 := by omega
    rw [if_pos (by omega), Nat.mod_eq_of_lt h0, Nat.pow_zero, Nat.mul_one]
  · rw [if_neg (by omega), h1, Nat.add_sub_cancel, show 2 ^ 23 + t % 2 ^ 23 = t by omega]
  · rw [if_neg (by omega), show j + 2 ^ 24 / 2 ^ 23 - 1 = j + 1 by omega, Nat.pow_succ]
    omega

theorem signed_patternOf (m : Nat) : signed (patternOf neg t j) m = if neg then -(m : Int) else (m : Int) := by
  have := add_div_lt_of_mul_two_pow_lt ht hj hlt
  rw [signed_eq, patternOf_toNat ht hj hlt]
  cases neg
  · exact if_pos (by rw [Bool.toNat_false]; omega)
  · exact if_neg (by rw [Bool.toNat_true]; omega)

end Pattern

/-! ### The quotient rounded to the nearest integer -/

/-- The integer `c` is no nearer to `a / b` than `m` is, and another one as near leaves the significand `t` even. -/
def NearestOrTieEven (a : ℤ) (b : ℕ) (m : ℤ) (t : ℕ) (c : ℤ) : Prop :=
  |m * b - a| ≤ |c * b - a| ∧ (|m * b - a| = |c * b - a| → c ≠ m → t % 2 = 0)

/-- Negating all three numbers keeps every distance. -/
theorem NearestOrTieEven.neg {a : ℤ} {b : ℕ} {m : ℤ} {t : ℕ} {c : ℤ} (h : NearestOrTieEven a b m t c) :
    NearestOrTieEven (-a) b (-m) t (-c) := by
  have hdist : ∀ k : ℤ, |-k * b - -a| = |k * b - a| := fun k => by
    rw [neg_mul, neg_sub_neg, abs_sub_comm]
  rw [NearestOrTieEven, hdist, hdist]
  exact ⟨h.1, fun heq hne => h.2 heq fun hcm => hne (by rw [hcm])⟩

/-- Where the quotient lies halfway between two integers, the even one is taken. -/
theorem divNearestEven_even_of_tie {a b : Nat} (hb : 0 < b)
    (h : 2 * |(divNearestEven a b : ℤ) * b - a| = b) : divNearestEven a b % 2 = 0 := by
  have hd := Nat.div_add_mod a b
  have hm := Nat.mod_lt a hb
  rw [Nat.mul_comm] at hd
  rw [← Nat.cast_mul] at h
  unfold divNearestEven at h ⊢
  split_ifs at h ⊢ with hc
  · rw [Nat.add_mul, Nat.one_mul, abs_of_nonneg (by omega)] at h
    omega
  · rw [abs_of_nonpos (by omega)] at h
    omega

/-- The rounded quotient is the nearest integer: it is within half of `b`, and every other one is `b` away from it. -/
theorem divNearestEven_nearest {a b : Nat} (hb : 0 < b) (k : ℤ) :
    NearestOrTieEven a b (divNearestEven a b) (divNearestEven a b) k := by
  by_cases hk : k = divNearestEven a b
  · exact hk ▸ ⟨le_rfl, fun _ h => absurd rfl h⟩
  · have hhalf : 2 * |(divNearestEven a b : ℤ) * b - a| ≤ b := by
      obtain ⟨hup, hlow⟩ := divNearestEven_spec a b hb
      rw [← abs_two, ← abs_mul, abs_le, ← Nat.cast_mul]
      omega
    have hfar : (b : ℤ) ≤ |k * b - divNearestEven a b * b| := by
      rw [← sub_mul, abs_mul, Nat.abs_cast]
      exact le_mul_of_one_le_left (by omega) (Int.one_le_abs (sub_ne_zero.2 hk))
    have htri := abs_sub_le (k * b) a (divNearestEven a b * b)
    rw [abs_sub_comm (a : ℤ)] at htri
    exact ⟨by omega, fun heq _ => divNearestEven_even_of_tie hb (by omega)⟩

/-! ### The magnitude that `rn32` answers -/

/-- The scale of the ulp around the magnitude `a / d`: `ulpScaled (a / d)` is `2^(ulpExp a d)`. -/
def ulpExp (a d : Nat) : Nat := (a / d).log2 - 23

/-- The significand `rn32` rounds the magnitude `a / d` to. -/
def significand (a d : Nat) : Nat := divNearestEven a (d * 2 ^ ulpExp a d)

/-- The magnitude `rn32` answers for `a / d`. -/
def roundedMagnitude (a d : Nat) : Nat := significand a d * 2 ^ ulpExp a d

theorem rn32_eq_some_iff {n v : Int} {d : Nat} :
    rn32 n d = some v ↔
      roundedMagnitude n.natAbs d < 2 ^ 128 * 2 ^ 149 ∧ n.sign * (roundedMagnitude n.natAbs d : Int) = v :=
  Option.ite_none_right_eq_some.trans (and_congr_right fun _ => Option.some_inj)

/-- The magnitude with the sign of `n`; a zero `n` has a zero magnitude, so its sign does not matter. -/
theorem eq_signed_of_rn32 {n v : Int} {d : Nat} (hv : rn32 n d = some v) :
    v = if n < 0 then -(roundedMagnitude n.natAbs d : Int) else roundedMagnitude n.natAbs d := by
  obtain ⟨-, rfl⟩ := rn32_eq_some_iff.1 hv
  obtain hneg | rfl | hpos := lt_trichotomy n 0
  · rw [if_pos hneg, Int.sign_eq_neg_one_of_neg hneg, neg_one_mul]
  · simp [roundedMagnitude, significand, divNearestEven]
  · rw [if_neg hpos.not_gt, Int.sign_eq_one_of_pos hpos, one_mul]

section Magnitude

variable {a d : Nat} (hd : 0 < d)
include hd

theorem mul_two_pow_ulpExp_pos : 0 < d * 2 ^ ulpExp a d := Nat.mul_pos hd (Nat.two_pow_pos _)

/-- A magnitude is less than 2^24 of its ulps. -/
theorem lt_two_pow_mul_ulp : a < 2 ^ 24 * (d * 2 ^ ulpExp a d) := by
  have hlog : a / d < 2 ^ (24 + ulpExp a d) :=
    Nat.lt_log2_self.trans_le (Nat.pow_le_pow_right two_pos (by rw [ulpExp]; omega))
  rw [Nat.div_lt_iff_lt_mul hd, Nat.pow_add] at hlog
  rwa [Nat.mul_comm d, ← Nat.mul_assoc]

/-- A magnitude is at least 2^23 of its ulps, unless it is among the smallest, where the ulp is 1. -/
theorem two_pow_mul_ulp_le (h : ulpExp a d ≠ 0) : 2 ^ 23 * (d * 2 ^ ulpExp a d) ≤ a := by
  have hne : a / d ≠ 0 := fun h0 => h (by rw [ulpExp, h0, Nat.log2_zero])
  have hlog : 2 ^ (23 + ulpExp a d) ≤ a / d := by
    rw [ulpExp] at h ⊢
    exact (Nat.le_log2 hne).1 (by omega)
  rw [Nat.le_div_iff_mul_le hd, Nat.pow_add] at hlog
  rwa [Nat.mul_comm d, ← Nat.mul_assoc]

theorem significand_le : significand a d ≤ 2 ^ 24 := by
  have hb := mul_two_pow_ulpExp_pos (a := a) hd
  obtain ⟨hup, -⟩ := divNearestEven_spec a _ hb
  have hlt := lt_two_pow_mul_ulp (a := a) hd
  have : significand a d * (d * 2 ^ ulpExp a d) < (2 ^ 24 + 1) * (d * 2 ^ ulpExp a d) := by
    rw [significand]
    omega
  exact Nat.le_of_lt_succ (Nat.lt_of_mul_lt_mul_right this)

theorem le_significand : ulpExp a d = 0 ∨ 2 ^ 23 ≤ significand a d := by
  refine or_iff_not_imp_left.2 fun h => ?_
  have hb := mul_two_pow_ulpExp_pos (a := a) hd
  obtain ⟨-, hlow⟩ := divNearestEven_spec a _ hb
  have hle := two_pow_mul_ulp_le hd h
  have : 2 ^ 23 * (d * 2 ^ ulpExp a d) < (significand a d + 1) * (d * 2 ^ ulpExp a d) := by
    rw [significand, Nat.add_mul]
    omega
  exact Nat.le_of_lt_succ (Nat.lt_of_mul_lt_mul_right this)

/-- Of the multiples of the ulp, none is nearer to `a / d`. -/
theorem roundedMagnitude_nearest_of_dvd {c : ℤ} (hc : (2 : ℤ) ^ ulpExp a d ∣ c) :
    NearestOrTieEven a d (roundedMagnitude a d) (significand a d) c := by
  obtain ⟨k, rfl⟩ := hc
  obtain ⟨hle, htie⟩ := divNearestEven_nearest (a := a) (mul_two_pow_ulpExp_pos (a := a) hd) k
  rw [← significand] at hle htie
  have hcount : ∀ m : ℤ, m * ((d * 2 ^ ulpExp a d : Nat) : ℤ) = 2 ^ ulpExp a d * m * d := fun m => by
    push_cast
    ring
  have hmag : (roundedMagnitude a d : ℤ) = 2 ^ ulpExp a d * significand a d := by
    rw [roundedMagnitude, Nat.cast_mul, Nat.cast_pow, Nat.cast_ofNat, mul_comm]
  rw [hcount, hcount] at hle htie
  rw [NearestOrTieEven, hmag]
  exact ⟨hle, fun heq hne => htie heq fun hk => hne (by rw [hk])⟩

/-- Of the numbers with a 24-bit significand, none is nearer to `a / d`: one that is not a multiple of the ulp lies
below 2^23 ulps, which is a multiple and no more than `a / d`. -/
theorem roundedMagnitude_nearest {c : ℤ} (hc : 2 ^ (23 + ulpExp a d) ≤ c.natAbs → 2 ^ ulpExp a d ∣ c.natAbs) :
    NearestOrTieEven a d (roundedMagnitude a d) (significand a d) c := by
  by_cases hdvd : 2 ^ ulpExp a d ∣ c.natAbs
  · exact roundedMagnitude_nearest_of_dvd hd (by exact_mod_cast Int.natCast_dvd.2 hdvd)
  · have hulp : ulpExp a d ≠ 0 := fun h => hdvd (by rw [h]; exact one_dvd _)
    obtain ⟨hnear, -⟩ := roundedMagnitude_nearest_of_dvd (a := a) hd (Dvd.intro_left ((2 : ℤ) ^ 23) rfl)
    have hedge : (2 : ℤ) ^ 23 * 2 ^ ulpExp a d * d ≤ a := by
      have := two_pow_mul_ulp_le hd hulp
      rw [Nat.mul_comm d, ← Nat.mul_assoc] at this
      exact_mod_cast this
    have hbelow : c < 2 ^ 23 * 2 ^ ulpExp a d := by
      have hlt : c.natAbs < 2 ^ 23 * 2 ^ ulpExp a d := by
        rw [← Nat.pow_add]
        exact Nat.lt_of_not_le (mt hc hdvd)
      exact Int.le_natAbs.trans_lt (by exact_mod_cast hlt)
    have hstrict : c * d < 2 ^ 23 * 2 ^ ulpExp a d * d := mul_lt_mul_of_pos_right hbelow (by omega)
    rw [abs_of_nonpos (sub_nonpos.2 hedge)] at hnear
    rw [NearestOrTieEven, abs_of_neg (sub_neg.2 (hstrict.trans_le hedge))]
    exact ⟨by omega, fun heq => by omega⟩

end Magnitude

/-! ### The rounded value, with its sign -/

/-- The finite value nearest to `n / d`, in units of 2^-149, as `rn32` rounds it. -/
def roundedPattern (n : Int) (d : Nat) : F32 :=
  patternOf (decide (n < 0)) (significand n.natAbs d) (ulpExp n.natAbs d)

section Rounded

variable {n v : ℤ} {d : ℕ} (hd : 0 < d) (hv : rn32 n d = some v)
include hd hv

theorem isFinite_roundedPattern : IsFinite (roundedPattern n d) :=
  isFinite_patternOf (significand_le hd) (le_significand hd) (rn32_eq_some_iff.1 hv).1 _

theorem realOf_roundedPattern : realOf (roundedPattern n d) = (v : ℚ) / 2 ^ 149 := by
  have hlt := (rn32_eq_some_iff.1 hv).1
  rw [realOf_eq_scaled, roundedPattern, scaledMagnitude_patternOf (significand_le hd) (le_significand hd) hlt,
    signed_patternOf (significand_le hd) (le_significand hd) hlt, eq_signed_of_rn32 hv, roundedMagnitude]
  simp only [decide_eq_true_eq]

theorem fractionOf_roundedPattern_even (h : significand n.natAbs d % 2 = 0) :
    fractionOf (roundedPattern n d) % 2 = 0 := by
  rw [roundedPattern, fractionOf_patternOf (significand_le hd) (le_significand hd) (rn32_eq_some_iff.1 hv).1]
  omega

/-- No number with a 24-bit significand is nearer to `n / d`. -/
theorem rn32_nearest {c : ℤ} (hc : 2 ^ (23 + ulpExp n.natAbs d) ≤ c.natAbs → 2 ^ ulpExp n.natAbs d ∣ c.natAbs) :
    NearestOrTieEven n d v (significand n.natAbs d) c := by
  rw [eq_signed_of_rn32 hv]
  split_ifs with hneg
  · have hnear := (roundedMagnitude_nearest (a := n.natAbs) hd (c := -c) (by rwa [Int.natAbs_neg])).neg
    rwa [Int.ofNat_natAbs_of_nonpos hneg.le, neg_neg, neg_neg] at hnear
  · have hnear := roundedMagnitude_nearest (a := n.natAbs) hd hc
    rwa [Int.natAbs_of_nonneg (not_lt.1 hneg)] at hnear

end Rounded

/-- Distances between reals are distances between integers, in units of `2^-149 / d`. -/
theorem abs_scaled_sub {d : ℕ} (hd : 0 < d) (c n : ℤ) :
    |(c : ℚ) / 2 ^ 149 - (n : ℚ) / d / 2 ^ 149| = ((|c * d - n| : ℤ) : ℚ) / (d * 2 ^ 149) := by
  have hd' : (0 : ℚ) < d := Nat.cast_pos.2 hd
  have hscale : (c : ℚ) / 2 ^ 149 - (n : ℚ) / d / 2 ^ 149 = ((c * d - n : ℤ) : ℚ) / (d * 2 ^ 149) := by
    push_cast
    field_simp
  rw [hscale, abs_div, abs_of_pos (mul_pos hd' (by positivity)), Int.cast_abs]

/-- Settles O28: the value answered has a pattern, and a finite pattern is a count of 2^-149 with a 24-bit significand,
so the distances compare as those of `rn32_nearest`. -/
theorem roundingIsNearestEven : Obligations.RoundingIsNearestEven := by
  intro n d v hd hv
  have hreal := realOf_roundedPattern hd hv
  refine ⟨roundedPattern n d, isFinite_roundedPattern hd hv, hreal, fun y _ => ?_⟩
  have hscale : (0 : ℚ) < d * 2 ^ 149 := mul_pos (Nat.cast_pos.2 hd) (by positivity)
  obtain ⟨hle, htie⟩ := rn32_nearest hd hv (c := signed y (scaledMagnitude y))
    (by rw [natAbs_signed]; exact two_pow_dvd_scaledMagnitude)
  rw [hreal, realOf_eq_scaled y, abs_scaled_sub hd, abs_scaled_sub hd, div_le_div_iff_of_pos_right hscale,
    div_left_inj' hscale.ne', Int.cast_le, Int.cast_inj]
  exact ⟨hle, fun heq hne => fractionOf_roundedPattern_even hd hv (htie heq fun h => hne (by rw [h]))⟩

end Machine
end Sys2Proof
end

section
/-! The integers of the quantity-to-word conversions against exact rational arithmetic (R100, R103 to R105). -/

namespace Sys2Proof
namespace Machine

/-! ### Ranges and words in units of 2^-149 -/

theorem truncInRange_iff (x : F32) :
    TruncInRange x ↔
      IsFinite x ∧ -2 ^ 149 < signed x (scaledMagnitude x) ∧ signed x (scaledMagnitude x) < 65536 * 2 ^ 149 := by
  rw [TruncInRange, realOf_eq_scaled, lt_div_iff₀ (by positivity), div_lt_iff₀ (by positivity), neg_one_mul]
  norm_cast

theorem offsetInRange_iff (x : F32) :
    OffsetInRange x ↔
      IsFinite x ∧ -(175 * 2 ^ 132) < signed x (scaledMagnitude x) ∧
        signed x (scaledMagnitude x) < 175 * 131071 * 2 ^ 132 := by
  have hlow : -(175 / 131072) * 2 ^ 149 = ((-(175 * 2 ^ 132) : ℤ) : ℚ) := by norm_num
  have hhigh : 175 * 131071 / 131072 * 2 ^ 149 = ((175 * 131071 * 2 ^ 132 : ℤ) : ℚ) := by norm_num
  rw [OffsetInRange, realOf_eq_scaled, lt_div_iff₀ (by positivity), div_lt_iff₀ (by positivity), hlow, hhigh,
    Int.cast_lt, Int.cast_lt]

theorem truncOf_scaled (n : ℤ) : truncOf ((n : ℚ) / 2 ^ 149) = truncScaled n := by
  have hfloor : ∀ m : ℤ, ⌊(m : ℚ) / 2 ^ 149⌋ = m / 2 ^ 149 := fun m => by
    exact_mod_cast Rat.floor_intCast_div_natCast m (2 ^ 149)
  have hceil : ∀ m : ℤ, ⌈(m : ℚ) / 2 ^ 149⌉ = -(-m / 2 ^ 149) := fun m => by
    exact_mod_cast Rat.ceil_intCast_div_natCast m (2 ^ 149)
  rw [truncOf, truncScaled]
  split_ifs with h
  · have hn : 0 ≤ n := by
      rw [le_div_iff₀ (by positivity), zero_mul] at h
      exact_mod_cast h
    rw [hfloor, Int.tdiv_eq_ediv_of_nonneg hn]
  · have hn : 0 ≤ -n := by
      rw [not_le, div_lt_iff₀ (by positivity), zero_mul] at h
      have : n < 0 := by exact_mod_cast h
      omega
    rw [hceil, ← Int.tdiv_eq_ediv_of_nonneg hn, Int.neg_tdiv, neg_neg]

theorem truncOf_realOf (x : F32) : truncOf (realOf x) = truncScaled (signed x (scaledMagnitude x)) := by
  rw [realOf_eq_scaled, truncOf_scaled]

theorem offsetWordExact_eq (x : F32) :
    offsetWordExact x = (signed x (scaledMagnitude x) + 175 * 2 ^ 132) / (175 * 2 ^ 133) := by
  have hquot : 65536 * realOf x / 175 + 1 / 2 =
      ((signed x (scaledMagnitude x) + 175 * 2 ^ 132 : ℤ) : ℚ) / ((175 * 2 ^ 133 : ℕ) : ℚ) := by
    rw [realOf_eq_scaled]
    push_cast
    ring
  rw [offsetWordExact, hquot, Rat.floor_intCast_div_natCast]
  norm_cast

theorem truncOperand_eq_some_iff {x : F32} {r : ℤ} :
    truncOperand x = some r ↔ IsFinite x ∧ truncScaled (signed x (scaledMagnitude x)) = r := by
  by_cases h : IsFinite x
  · simp [truncOperand, readF32_of_finite h, h]
  · rw [truncOperand, readF32_of_exponent_ones (not_not.1 h)]
    split_ifs <;> simp [h]

/-- The integer of an operand lies in 0 to 65535 exactly when the operand is in range: truncation is toward zero. -/
theorem truncScaled_mem_iff (n : ℤ) :
    0 ≤ truncScaled n ∧ truncScaled n ≤ 65535 ↔ -2 ^ 149 < n ∧ n < 65536 * 2 ^ 149 := by
  rw [truncScaled]
  obtain h | h := le_total 0 n
  · rw [Int.tdiv_eq_ediv_of_nonneg h]
    omega
  · have hneg := Int.neg_tdiv (-n) (2 ^ 149)
    rw [neg_neg, Int.tdiv_eq_ediv_of_nonneg (by omega : 0 ≤ -n)] at hneg
    rw [hneg]
    omega

theorem truncOperand_of_inRange {x : F32} (h : TruncInRange x) :
    truncOperand x = some (truncOf (realOf x)) ∧ 0 ≤ truncOf (realOf x) ∧ truncOf (realOf x) ≤ 65535 := by
  obtain ⟨hfin, hbounds⟩ := (truncInRange_iff x).1 h
  rw [truncOf_realOf]
  exact ⟨truncOperand_eq_some_iff.2 ⟨hfin, rfl⟩, (truncScaled_mem_iff _).2 hbounds⟩

theorem truncOperand_of_not_inRange {x : F32} (h : ¬ TruncInRange x) {r : ℤ} (hr : truncOperand x = some r) :
    r < 0 ∨ 65535 < r := by
  obtain ⟨hfin, rfl⟩ := truncOperand_eq_some_iff.1 hr
  have := mt (truncScaled_mem_iff _).1 fun hbounds => h ((truncInRange_iff x).2 ⟨hfin, hbounds⟩)
  omega

/-! ### Magnitudes with a significand of 24 bits -/

/-- At `2^23` steps of `2^j` and above, `a` is a whole number of those steps. -/
def HasSignificand24 (a : ℕ) : Prop := ∀ j, 2 ^ (23 + j) ≤ a → 2 ^ j ∣ a

theorem hasSignificand24_scaledMagnitude (x : F32) : HasSignificand24 (scaledMagnitude x) :=
  fun _ => two_pow_dvd_scaledMagnitude

theorem HasSignificand24.mul_two_pow {a : ℕ} (h : HasSignificand24 a) (k : ℕ) : HasSignificand24 (a * 2 ^ k) := by
  intro j hj
  obtain hjk | hkj := Nat.le_total j k
  · exact Dvd.dvd.mul_left (Nat.pow_dvd_pow 2 hjk) a
  · obtain ⟨i, rfl⟩ := Nat.exists_eq_add_of_le' hkj
    rw [← Nat.add_assoc, Nat.pow_add] at hj
    rw [Nat.pow_add]
    exact Nat.mul_dvd_mul_right (h i (Nat.le_of_mul_le_mul_right hj (Nat.two_pow_pos k))) _

/-- A magnitude with a significand of 24 bits is not rounded. -/
theorem HasSignificand24.roundedMagnitude_one {a : ℕ} (h : HasSignificand24 a) : roundedMagnitude a 1 = a := by
  have hdvd : 2 ^ ulpExp a 1 ∣ a := by
    by_cases he : ulpExp a 1 = 0
    · rw [he]
      exact one_dvd a
    · refine h _ ?_
      have := two_pow_mul_ulp_le Nat.one_pos he
      rwa [Nat.one_mul, ← Nat.pow_add] at this
  have hsig : significand a 1 = a / 2 ^ ulpExp a 1 := by
    have := divNearestEven_mul_right (a / 2 ^ ulpExp a 1) (2 ^ ulpExp a 1) (Nat.two_pow_pos _)
    rwa [Nat.div_mul_cancel hdvd, ← Nat.one_mul (2 ^ ulpExp a 1), ← significand, Nat.one_mul] at this
  rw [roundedMagnitude, hsig, Nat.div_mul_cancel hdvd]

theorem rn32_one_eq_some_iff {n p : ℤ} (h : HasSignificand24 n.natAbs) :
    rn32 n 1 = some p ↔ n.natAbs < 2 ^ 128 * 2 ^ 149 ∧ n = p := by
  rw [rn32_eq_some_iff, h.roundedMagnitude_one, Int.sign_mul_natAbs]

/-! ### The word of a temperature offset (R103)

The quotient by 175 rounded to binary32 lies below a half-integer exactly when the exact quotient does: the
half-integers up to 65535.5 are binary32 values, and the product, whose significand has 24 bits, keeps a distance of
more than half an ulp from 175 times each that lies above it. -/

/-- Rounding does not cross a whole number of ulps from above. -/
theorem le_significand_of_mul_le {a d t : ℕ} (hd : 0 < d) (h : t * (d * 2 ^ ulpExp a d) ≤ a) :
    t ≤ significand a d := by
  obtain ⟨-, hlow⟩ := divNearestEven_spec a _ (mul_two_pow_ulpExp_pos (a := a) hd)
  have : t * (d * 2 ^ ulpExp a d) < (significand a d + 1) * (d * 2 ^ ulpExp a d) := by
    have := mul_two_pow_ulpExp_pos (a := a) hd
    rw [significand, Nat.add_mul]
    omega
  exact Nat.le_of_lt_succ (Nat.lt_of_mul_lt_mul_right this)

/-- A half-integer is a whole number of ulps, unless the ulp is so large that the quotient lies far above it. -/
theorem half_le_roundedMagnitude {a k : ℕ} (hk : k ≤ 65535) (h : 175 * ((2 * k + 1) * 2 ^ 148) ≤ a) :
    (2 * k + 1) * 2 ^ 148 ≤ roundedMagnitude a 175 := by
  obtain he | he := Nat.le_total (ulpExp a 175) 148
  · obtain ⟨i, hi⟩ := Nat.exists_eq_add_of_le' he
    rw [hi, Nat.pow_add] at h ⊢
    rw [← Nat.mul_assoc]
    refine Nat.mul_le_mul_right _ (le_significand_of_mul_le (by omega) ?_)
    rwa [Nat.mul_left_comm, Nat.mul_assoc]
  · have hsig := (le_significand (a := a) (d := 175) (by omega)).resolve_left (by omega)
    calc (2 * k + 1) * 2 ^ 148 ≤ 2 ^ 23 * 2 ^ 148 := Nat.mul_le_mul_right _ (by omega)
      _ ≤ roundedMagnitude a 175 := Nat.mul_le_mul hsig (Nat.pow_le_pow_right two_pos he)

section Quotient

variable {a : ℕ} (ha : HasSignificand24 a) (h16 : 2 ^ 16 ∣ a)
include ha h16

/-- The product is a whole number of 2^7 ulps of the quotient. -/
theorem two_pow_ulpExp_dvd : 2 ^ (7 + ulpExp a 175) ∣ a := by
  by_cases he : ulpExp a 175 = 0
  · rw [he]
    exact (Nat.pow_dvd_pow 2 (by omega)).trans h16
  · refine ha _ ?_
    have := two_pow_mul_ulp_le (d := 175) (by omega) he
    have hpow : 2 ^ (23 + (7 + ulpExp a 175)) = 2 ^ 30 * 2 ^ ulpExp a 175 := by ring
    omega

/-- Below a half-integer, by a distance of 2^7 / 175 ulps or more, which is over half an ulp. -/
theorem roundedMagnitude_lt_half {k : ℕ} (hk : k ≤ 65535) (h : a < 175 * ((2 * k + 1) * 2 ^ 148)) :
    roundedMagnitude a 175 < (2 * k + 1) * 2 ^ 148 := by
  have he : ulpExp a 175 ≤ 141 := by
    by_contra he
    have hsmall := two_pow_mul_ulp_le (a := a) (d := 175) (by omega) (by omega)
    have := Nat.pow_le_pow_right (n := 2) two_pos (Nat.lt_of_not_le he)
    omega
  have hgap : 2 ^ 7 * 2 ^ ulpExp a 175 ∣ 175 * ((2 * k + 1) * 2 ^ 148) - a := by
    rw [← Nat.pow_add]
    refine Nat.dvd_sub (((Nat.pow_dvd_pow 2 ?_).mul_left _).mul_left _) (two_pow_ulpExp_dvd ha h16)
    omega
  have hdist := Nat.le_of_dvd (by omega) hgap
  obtain ⟨hup, -⟩ := divNearestEven_spec a _ (mul_two_pow_ulpExp_pos (a := a) (d := 175) (by omega))
  rw [← significand, Nat.mul_left_comm (significand a 175), ← roundedMagnitude] at hup
  omega

/-- Rounding the quotient keeps its side of every half-integer up to 65535.5. -/
theorem half_le_roundedMagnitude_iff {k : ℕ} (hk : k ≤ 65535) :
    (2 * k + 1) * 2 ^ 148 ≤ roundedMagnitude a 175 ↔ 175 * ((2 * k + 1) * 2 ^ 148) ≤ a :=
  ⟨fun h => Nat.le_of_not_lt fun hlt => (roundedMagnitude_lt_half ha h16 hk hlt).not_ge h,
    half_le_roundedMagnitude hk⟩

/-- Where the exact quotient rounds to a word, the two roundings change nothing. -/
theorem halfUp_roundedMagnitude_eq (h : (2 * a + 175 * 2 ^ 149) / (175 * 2 ^ 150) ≤ 65535) :
    (2 * roundedMagnitude a 175 + 2 ^ 149) / 2 ^ 150 = (2 * a + 175 * 2 ^ 149) / (175 * 2 ^ 150) := by
  have habove := half_le_roundedMagnitude_iff ha h16 h
  have hbelow := half_le_roundedMagnitude_iff ha h16 (k := (2 * a + 175 * 2 ^ 149) / (175 * 2 ^ 150) - 1) (by omega)
  omega

/-- Where the exact quotient rounds beyond a word, so does the rounded one. -/
theorem halfUp_roundedMagnitude_gt (h : 65535 < (2 * a + 175 * 2 ^ 149) / (175 * 2 ^ 150)) :
    65535 < (2 * roundedMagnitude a 175 + 2 ^ 149) / 2 ^ 150 := by
  have := half_le_roundedMagnitude_iff ha h16 (k := 65535) le_rfl
  omega

end Quotient

theorem roundAwayScaled_sign_mul (n : ℤ) (m : ℕ) :
    roundAwayScaled (n.sign * m) = n.sign * ((2 * m + 2 ^ 149) / 2 ^ 150 : ℕ) := by
  obtain rfl | hn := eq_or_ne n 0
  · simp [roundAwayScaled]
  · have habs : (n.sign * (m : ℤ)).natAbs = m := by
      rw [Int.natAbs_mul, Int.natAbs_sign_of_ne_zero hn, Nat.one_mul, Int.natAbs_natCast]
    obtain rfl | hm := Nat.eq_zero_or_pos m
    · simp [roundAwayScaled]
    · rw [roundAwayScaled, habs, Int.sign_mul, Int.sign_sign, Int.sign_natCast_of_ne_zero hm.ne', mul_one]

theorem natAbs_product (x : F32) :
    (65536 * signed x (scaledMagnitude x)).natAbs = scaledMagnitude x * 2 ^ 16 := by
  rw [Int.natAbs_mul, natAbs_signed, Nat.mul_comm]
  rfl

/-- The product by 65536 is exact, unless it overflows. -/
theorem rn32_product_eq_some_iff {x : F32} {p : ℤ} :
    rn32 (65536 * signed x (scaledMagnitude x)) 1 = some p ↔
      scaledMagnitude x * 2 ^ 16 < 2 ^ 128 * 2 ^ 149 ∧ 65536 * signed x (scaledMagnitude x) = p := by
  have hbits := (hasSignificand24_scaledMagnitude x).mul_two_pow 16
  rw [rn32_one_eq_some_iff (by rwa [natAbs_product]), natAbs_product]

/-- When the integer of a temperature offset exists, and which it is: only the quotient is rounded. -/
theorem offsetOperand_eq_some_iff {x : F32} {r : ℤ} :
    offsetOperand x = some r ↔ IsFinite x ∧ scaledMagnitude x * 2 ^ 16 < 2 ^ 128 * 2 ^ 149 ∧
      roundedMagnitude (scaledMagnitude x * 2 ^ 16) 175 < 2 ^ 128 * 2 ^ 149 ∧
      (signed x (scaledMagnitude x)).sign *
        ((2 * roundedMagnitude (scaledMagnitude x * 2 ^ 16) 175 + 2 ^ 149) / 2 ^ 150 : ℕ) = r := by
  by_cases h : IsFinite x
  · have hsign : (65536 * signed x (scaledMagnitude x)).sign = (signed x (scaledMagnitude x)).sign := by
      rw [Int.sign_mul, Int.sign_eq_one_of_pos (by omega : (0 : ℤ) < 65536), one_mul]
    simp only [offsetOperand, readF32_of_finite h, Option.bind_eq_some_iff, Option.map_eq_some_iff,
      rn32_product_eq_some_iff]
    constructor
    · rintro ⟨p, ⟨hlt, rfl⟩, q, hq, rfl⟩
      obtain ⟨hlt', rfl⟩ := rn32_eq_some_iff.1 hq
      rw [natAbs_product] at hlt'
      rw [natAbs_product, hsign, roundAwayScaled_sign_mul]
      exact ⟨h, hlt, hlt', rfl⟩
    · rintro ⟨-, hlt, hlt', rfl⟩
      refine ⟨_, ⟨hlt, rfl⟩, _, rn32_eq_some_iff.2 ⟨by rwa [natAbs_product], rfl⟩, ?_⟩
      rw [natAbs_product, hsign, roundAwayScaled_sign_mul]
  · rw [offsetOperand, readF32_of_exponent_ones (not_not.1 h)]
    split_ifs <;> simp [h]

theorem offsetOperand_of_inRange {x : F32} (h : OffsetInRange x) :
    offsetOperand x = some (offsetWordExact x) ∧ 0 ≤ offsetWordExact x ∧ offsetWordExact x ≤ 65535 := by
  obtain ⟨hfin, hlow, hhigh⟩ := (offsetInRange_iff x).1 h
  have hbits := (hasSignificand24_scaledMagnitude x).mul_two_pow 16
  have habs := natAbs_signed x (scaledMagnitude x)
  have hround := halfUp_roundedMagnitude_eq hbits (Nat.dvd_mul_left _ _) (by omega)
  rw [offsetOperand_eq_some_iff, offsetWordExact_eq, hround]
  refine ⟨⟨hfin, by omega, by omega, ?_⟩, by omega, by omega⟩
  obtain hneg | hzero | hpos := lt_trichotomy (signed x (scaledMagnitude x)) 0
  · rw [Int.sign_eq_neg_one_of_neg hneg]
    omega
  · rw [hzero, Int.sign_zero, zero_mul]
    rfl
  · rw [Int.sign_eq_one_of_pos hpos]
    omega

theorem offsetOperand_of_not_inRange {x : F32} (h : ¬ OffsetInRange x) {r : ℤ} (hr : offsetOperand x = some r) :
    r < 0 ∨ 65535 < r := by
  obtain ⟨hfin, -, -, rfl⟩ := offsetOperand_eq_some_iff.1 hr
  have hbits := (hasSignificand24_scaledMagnitude x).mul_two_pow 16
  have habs := natAbs_signed x (scaledMagnitude x)
  have hout : signed x (scaledMagnitude x) ≤ -(175 * 2 ^ 132) ∨
      175 * 131071 * 2 ^ 132 ≤ signed x (scaledMagnitude x) := by
    by_contra hin
    exact h ((offsetInRange_iff x).2 ⟨hfin, by omega, by omega⟩)
  obtain hneg | hpos := hout
  · have := half_le_roundedMagnitude_iff hbits (Nat.dvd_mul_left _ _) (k := 0) (by omega)
    rw [Int.sign_eq_neg_one_of_neg (by omega)]
    omega
  · have := halfUp_roundedMagnitude_gt hbits (Nat.dvd_mul_left _ _) (by omega)
    rw [Int.sign_eq_one_of_pos (by omega)]
    omega

/-! ### The word of an operand -/

/-- The range test on the integer of an operand is R100's test on the operand itself. -/
theorem wordInRange_eq_ite {P : Prop} [Decidable P] {r : Option ℤ} {w : ℤ}
    (hin : P → r = some w ∧ 0 ≤ w ∧ w ≤ 65535) (hout : ¬ P → ∀ {n}, r = some n → n < 0 ∨ 65535 < n)
    (oor : Word) :
    wordInRange r oor = if P then BitVec.ofInt 16 w else oor := by
  split_ifs with h
  · obtain ⟨rfl, h0, h1⟩ := hin h
    exact wordInRange_of_mem h0 h1 oor
  · cases r with
    | none => rfl
    | some n => exact wordInRange_of_not_mem (hout h rfl) oor

theorem wordInRange_truncOperand (x : F32) (oor : Word) :
    wordInRange (truncOperand x) oor = if TruncInRange x then BitVec.ofInt 16 (truncOf (realOf x)) else oor :=
  wordInRange_eq_ite truncOperand_of_inRange truncOperand_of_not_inRange oor

theorem wordInRange_offsetOperand (x : F32) (oor : Word) :
    wordInRange (offsetOperand x) oor = if OffsetInRange x then BitVec.ofInt 16 (offsetWordExact x) else oor :=
  wordInRange_eq_ite offsetOperand_of_inRange offsetOperand_of_not_inRange oor

end Machine
end Sys2Proof
end

section
/-! What an operation leaves: the registers after it are a function of the operation and of what `CRC` held, and the
response does not use `CRC` (R11, R20, R22). -/

namespace Sys2Proof
namespace Machine

/-! ### Bit tests and layouts in the terms of the pure function -/

theorem sub_frcBias_eq_xor (w : Word) : w - frcBias = w ^^^ 0x8000#16 := by
  apply BitVec.eq_of_toNat_eq
  have hbit : (w ^^^ 0x8000#16).toNat = w.toNat ^^^ 2 ^ 15 := BitVec.toNat_xor ..
  have hlow : (w.toNat ^^^ 2 ^ 15) % 2 ^ 15 = w.toNat % 2 ^ 15 := by
    rw [Nat.xor_mod_two_pow, Nat.mod_self, Nat.xor_zero]
  have hhigh : (w.toNat ^^^ 2 ^ 15) / 2 ^ 15 = 1 - w.toNat / 2 ^ 15 := by
    rw [Nat.xor_div_two_pow, Nat.div_self (by omega)]
    obtain h | h : w.toNat / 2 ^ 15 = 0 ∨ w.toNat / 2 ^ 15 = 1 := by omega
    · rw [h]; rfl
    · rw [h]; rfl
  have hsub : (w - frcBias).toNat = (2 ^ 16 - 2 ^ 15 + w.toNat) % 2 ^ 16 := BitVec.toNat_sub ..
  omega

theorem bne_zero_eq_decide {n : Nat} (x : BitVec n) : (x != 0#n) = decide (x.toNat ≠ 0) := by
  rw [bne, beq_eq_decide, ← decide_not]
  exact decide_eq_decide.2 (not_congr BitVec.toNat_eq)

theorem isReady_eq (w : Word) : isReady w = decide (w.toNat % 2048 ≠ 0) := by
  rw [isReady, bne_zero_eq_decide, BitVec.toNat_and]
  exact congrArg (fun n => decide (n ≠ 0)) (Nat.and_two_pow_sub_one_eq_mod w.toNat 11)

theorem selfTestPassed_eq (w : Word) : selfTestPassed w = decide (w.toNat = 0) := by
  rw [selfTestPassed, beq_eq_decide]
  exact decide_eq_decide.2 BitVec.toNat_eq

theorem ascEnabled_eq (w : Word) : ascEnabled w = decide (w.toNat % 2 = 1) := by
  rw [ascEnabled, bne_zero_eq_decide, BitVec.toNat_and]
  have hmask : w.toNat &&& ascMask.toNat = w.toNat % 2 := Nat.and_two_pow_sub_one_eq_mod w.toNat 1
  rw [hmask]
  exact decide_eq_decide.2 (by omega)

theorem layoutFrame_eq (w : Word) (c : Byte) :
    layoutFrame (w.extractLsb' 8 8) (w.extractLsb' 0 8) c = (w ++ c).setWidth 48 := by
  have hword : w.extractLsb' 8 8 ++ w.extractLsb' 0 8 = w := by
    exact (BitVec.extractLsb'_append_extractLsb'_eq_extractLsb' rfl).trans BitVec.extractLsb'_eq_self
  rw [layoutFrame, hword]

theorem layoutRw3_eq (a b c d e f : Byte) : layoutRw3 (a ++ b) (c ++ d) (e ++ f) = a ++ b ++ c ++ d ++ e ++ f := by
  apply BitVec.eq_of_toNat_eq
  simp only [layoutRw3, toNat_append_eq]
  omega

theorem setWidth_ofBool_eq (e : Bool) : (BitVec.ofBool e).setWidth 16 = if e then 1#16 else 0#16 := by
  cases e <;> rfl

/-! ### The registers after an operation -/

/-- `s` with the response `r` given and `c` left in `CRC`. -/
def State.answered (s : State) (c : Byte) (r : Response) : State :=
  { s with crc := c, st := r.st, res := r.res, act := r.act, exp := r.exp, grp := r.grp }

@[simp] theorem State.answered_crc (s : State) (c : Byte) (r : Response) : (s.answered c r).crc = c := rfl
@[simp] theorem State.answered_st (s : State) (c : Byte) (r : Response) : (s.answered c r).st = r.st := rfl
@[simp] theorem State.answered_res (s : State) (c : Byte) (r : Response) : (s.answered c r).res = r.res := rfl
@[simp] theorem State.answered_act (s : State) (c : Byte) (r : Response) : (s.answered c r).act = r.act := rfl
@[simp] theorem State.answered_exp (s : State) (c : Byte) (r : Response) : (s.answered c r).exp = r.exp := rfl
@[simp] theorem State.answered_grp (s : State) (c : Byte) (r : Response) : (s.answered c r).grp = r.grp := rfl
@[simp] theorem State.answered_inputs (s : State) (c : Byte) (r : Response) : (s.answered c r).inputs = s.inputs := rfl
@[simp] theorem State.answered_response (s : State) (c : Byte) (r : Response) : (s.answered c r).response = r := rfl

/-- The response of the outcome NONE (R144). -/
def noneResponse : Response := { st := 0x02#8, res := 0#48, act := 0x00#8, exp := 0x00#8, grp := 0#2 }

/-- The response that reports the group `p.2` of index `p.1` (R142). -/
def mismatchResponse (p : BitVec 2 × ByteGroup) : Response :=
  { st := 0x01#8, res := 0#48, act := crc8 p.2.b0 p.2.b1, exp := p.2.c, grp := p.1 }

/-- What the check of groups leaves in a `CRC` that held `c`: the checksum of the first that fails, else of the last. -/
def groupsCrc (c : Byte) : List (BitVec 2 × ByteGroup) → Byte
  | [] => c
  | (_, g) :: rest => if crc8 g.b0 g.b1 = g.c then groupsCrc (crc8 g.b0 g.b1) rest else crc8 g.b0 g.b1

/-- The groups an operation checks, in its order, each with its index (R64, R66, R67). -/
def checkedGroups : Instr → List (BitVec 2 × ByteGroup)
  | .crc8Verify b0 b1 c => [(0, { b0 := b0, b1 := b1, c := c })]
  | .wordUnpack b0 b1 c => [(0, { b0 := b0, b1 := b1, c := c })]
  | .word3Unpack g0 g1 g2 => [(0, g0), (1, g1), (2, g2)]
  | _ => []

/-- What an operation leaves in a `CRC` that held `c` (R11). -/
def instrCrc (c : Byte) : Instr → Byte
  | .crc8Compute b0 b1 => crc8 b0 b1
  | .wordPack w => crc8 (w.extractLsb' 8 8) (w.extractLsb' 0 8)
  | i => groupsCrc c (checkedGroups i)

/-- OK is what the check of no groups ends with. -/
theorem State.respondOk_eq_answered (v : Result) (s : State) :
    s.respondOk v = s.answered (groupsCrc s.crc []) (groupsResponse v []) := rfl

/-- The check of one group, before groups that are checked as the pure function says. -/
theorem State.verifyGroup_eq_answered {v : Result} {rest : List (BitVec 2 × ByteGroup)} {k : State → State}
    (hk : ∀ t, k t = t.answered (groupsCrc t.crc rest) (groupsResponse v rest)) (s : State) (grp : BitVec 2)
    (g : ByteGroup) :
    s.verifyGroup grp g k =
      s.answered (groupsCrc s.crc ((grp, g) :: rest)) (groupsResponse v ((grp, g) :: rest)) := by
  obtain ⟨h, hs⟩ | ⟨h, hs⟩ := s.verifyGroup_cases grp g k
  · rw [hs, hk, groupsCrc, groupsResponse, if_pos h, if_pos h]
    rfl
  · rw [hs, groupsCrc, groupsResponse, if_neg h, if_neg h]
    rfl

/-- The rule of all operations: each completes with the response of the pure function (R18, R22), and `CRC` is as
`instrCrc` says. -/
theorem exec_eq (i : Instr) (s : State) : exec i s = .next (s.answered (instrCrc s.crc i) (instrResponse i)) := by
  cases i with
  | crc8Compute | cvtCo2Fromw | cvtTempFromw | cvtRhFromw | cvtToffFromw | cvtAltFromw | cvtCo2Tow | decSerial => rfl
  | crc8Verify | wordUnpack =>
    exact congrArg Host.Outcome.next (State.verifyGroup_eq_answered (State.respondOk_eq_answered _) s _ _)
  | word3Unpack g0 g1 g2 =>
    rw [instrResponse, ← layoutRw3_eq]
    exact congrArg Host.Outcome.next (State.verifyGroup_eq_answered (State.verifyGroup_eq_answered
      (State.verifyGroup_eq_answered (State.respondOk_eq_answered _) · _ _) · _ _) s _ _)
  | wordPack w => rw [instrResponse, ← layoutFrame_eq]; rfl
  | cvtFrcFromw w =>
    by_cases h : w = 0xFFFF#16
    · rw [h]
      rfl
    · rw [instrResponse, if_neg h, ← sub_frcBias_eq_xor]
      exact congrArg Host.Outcome.next (if_neg h)
  | cvtToffTow x => rw [instrResponse, ← wordInRange_offsetOperand]; rfl
  | cvtAltTow x => rw [instrResponse, ← wordInRange_truncOperand]; rfl
  | cvtPresTow x => rw [instrResponse, ← wordInRange_truncOperand]; rfl
  | decDrdy w => rw [instrResponse, ← isReady_eq]; rfl
  | decSelftest w => rw [instrResponse, ← selfTestPassed_eq]; rfl
  | decAsc w => rw [instrResponse, ← ascEnabled_eq]; rfl
  | encAsc e => rw [instrResponse, ← setWidth_ofBool_eq]; rfl

end Machine
end Sys2Proof
end

section
/-! Requests, steps and runs by the rule of all operations, and what the registers can hold after them. -/

namespace Sys2Proof
namespace Machine

/-! ### The outcomes of an operation -/

/-- The check of groups ends with OK, or reports one of them and leaves its checksum in `CRC`. -/
theorem groupsResponse_cases (v : Result) (gs : List (BitVec 2 × ByteGroup)) :
    groupsResponse v gs = okResponse v ∨
    ∃ p ∈ gs, crc8 p.2.b0 p.2.b1 ≠ p.2.c ∧ groupsResponse v gs = mismatchResponse p ∧
      ∀ c, groupsCrc c gs = crc8 p.2.b0 p.2.b1 := by
  induction gs with
  | nil => exact .inl rfl
  | cons p rest ih =>
    by_cases h : crc8 p.2.b0 p.2.b1 = p.2.c
    · rw [groupsResponse, if_pos h]
      refine ih.imp_right fun ⟨q, hq, hne, hresp, hcrc⟩ => ⟨q, .tail _ hq, hne, hresp, fun c => ?_⟩
      rw [groupsCrc, if_pos h, hcrc]
    · exact .inr ⟨p, .head _, h, if_neg h, fun c => if_neg h⟩

/-- Every operation but the failed recalibration answers as the check of its groups, if any. -/
theorem instrResponse_eq_groupsResponse_or (i : Instr) :
    (∃ v, instrResponse i = groupsResponse v (checkedGroups i)) ∨
    (i = .cvtFrcFromw 0xFFFF#16 ∧ instrResponse i = noneResponse) := by
  by_cases h : i = .cvtFrcFromw 0xFFFF#16
  · rw [h]
    exact .inr ⟨rfl, rfl⟩
  · left
    cases i with
    | cvtFrcFromw w => exact ⟨_, if_neg fun hw => h (by rw [hw])⟩
    | _ => exact ⟨_, rfl⟩

/-- Of the operations that check groups, `CRC` is what the check leaves. -/
theorem instrCrc_of_checks {i : Instr} (h : checkedGroups i ≠ []) (c : Byte) :
    instrCrc c i = groupsCrc c (checkedGroups i) := by
  cases i with
  | crc8Compute | wordPack => exact absurd rfl h
  | _ => rfl

/-- Everything an operation can answer: OK, NONE for the failure word, or the report of a group it checks, whose
checksum stands in `CRC`. -/
theorem instrResponse_cases (i : Instr) :
    (∃ v, instrResponse i = okResponse v) ∨
    (i = .cvtFrcFromw 0xFFFF#16 ∧ instrResponse i = noneResponse) ∨
    ∃ p ∈ checkedGroups i, crc8 p.2.b0 p.2.b1 ≠ p.2.c ∧ instrResponse i = mismatchResponse p ∧
      ∀ c, instrCrc c i = crc8 p.2.b0 p.2.b1 := by
  obtain ⟨v, hv⟩ | hnone := instrResponse_eq_groupsResponse_or i
  · rw [hv]
    obtain hok | ⟨p, hp, hne, hresp, hcrc⟩ := groupsResponse_cases v (checkedGroups i)
    · exact .inl ⟨v, hok⟩
    · refine .inr (.inr ⟨p, hp, hne, hresp, fun c => ?_⟩)
      rw [instrCrc_of_checks (List.ne_nil_of_mem hp), hcrc]
  · exact .inr (.inl hnone)

/-- The operations that check groups. -/
theorem eq_of_mem_checkedGroups {i : Instr} {p : BitVec 2 × ByteGroup} (h : p ∈ checkedGroups i) :
    (∃ b0 b1 c, i = .crc8Verify b0 b1 c) ∨ (∃ b0 b1 c, i = .wordUnpack b0 b1 c) ∨
      ∃ g0 g1 g2, i = .word3Unpack g0 g1 g2 := by
  cases i with
  | crc8Verify b0 b1 c => exact .inl ⟨b0, b1, c, rfl⟩
  | wordUnpack b0 b1 c => exact .inr (.inl ⟨b0, b1, c, rfl⟩)
  | word3Unpack g0 g1 g2 => exact .inr (.inr ⟨g0, g1, g2, rfl⟩)
  | _ => exact absurd h List.not_mem_nil

/-- Groups are numbered 0, 1 and 2 in order. -/
theorem checkedGroups_indices (i : Instr) : (checkedGroups i).map Prod.fst <+: [0#2, 1#2, 2#2] := by
  cases i with
  | word3Unpack => exact ⟨[], rfl⟩
  | crc8Verify | wordUnpack => exact ⟨[1#2, 2#2], rfl⟩
  | _ => exact ⟨[0#2, 1#2, 2#2], rfl⟩

theorem index_ne_three_of_mem_checkedGroups {i : Instr} {p : BitVec 2 × ByteGroup} (h : p ∈ checkedGroups i) :
    p.1 ≠ 3#2 := by
  have hindex := (checkedGroups_indices i).subset (List.mem_map_of_mem (f := Prod.fst) h)
  exact fun h3 => absurd (h3 ▸ hindex) (by decide)

/-- Settles O53: the three cases of `instrResponse_cases`. -/
theorem outcomesOfEachOperation : Obligations.OutcomesOfEachOperation := by
  intro i s
  refine ⟨_, exec_eq i s, ?_⟩
  rw [State.answered_st]
  obtain ⟨v, hv⟩ | ⟨hi, hnone⟩ | ⟨p, hp, -, hresp, -⟩ := instrResponse_cases i
  · exact .inl (by rw [hv]; rfl)
  · exact .inr (.inr ⟨by rw [hnone]; rfl, hi⟩)
  · exact .inr (.inl ⟨by rw [hresp]; rfl, eq_of_mem_checkedGroups hp⟩)

/-! ### Requests -/

/-- What a request leaves in a `CRC` that held `c`: an unassigned `OP` leaves it alone (R143). -/
def requestCrc (c : Byte) (r : Request) : Byte :=
  match decode r with
  | .ok i => instrCrc c i
  | .error _ => c

/-- The rule of all requests: each is answered as the pure function says (R18, R22). -/
theorem serveRequest_eq (r : Request) (s : State) :
    serveRequest r s = .next (s.answered (requestCrc s.crc r) (answer r)) := by
  rw [serveRequest, requestCrc, answer]
  cases decode r with
  | ok i => exact exec_eq i s
  | error e => rfl

/-- Settles O57, by the rule of all requests. -/
theorem requestAnswersAsPureFunction : Obligations.RequestAnswersAsPureFunction :=
  fun r s => ⟨_, serveRequest_eq r s, State.answered_response ..⟩

/-! ### Coherent states -/

theorem coherent_answered_instr (i : Instr) (s : State) :
    (s.answered (instrCrc s.crc i) (instrResponse i)).Coherent := by
  obtain ⟨v, hv⟩ | ⟨-, hnone⟩ | ⟨p, hp, hne, hresp, hcrc⟩ := instrResponse_cases i
  · simp [State.Coherent, hv, okResponse]
  · simp [State.Coherent, hnone, noneResponse]
  · simp [State.Coherent, hresp, hcrc, mismatchResponse, hne, index_ne_three_of_mem_checkedGroups hp]

/-- A request leaves a coherent state, whatever state it finds: it writes every register of the invariant but `CRC`,
which the report of a group writes too (R15, R142). -/
theorem coherent_answered (r : Request) (s : State) : (s.answered (requestCrc s.crc r) (answer r)).Coherent := by
  rw [requestCrc, answer]
  cases decode r with
  | ok i => exact coherent_answered_instr i s
  | error e => simp [State.Coherent]

/-- The inputs are no register, so coherence does not depend on them. -/
theorem coherent_with_inputs {s : State} (inputs : List HostInput) (h : s.Coherent) :
    State.Coherent { s with inputs := inputs } := h

/-- Settles O55: the outcome is OK and the details are 0. -/
theorem resetIsCoherent : Obligations.ResetIsCoherent := by
  unfold Obligations.ResetIsCoherent
  decide

/-- Settles O54: an idle step changes nothing, reset gives the reset values, and a request leaves a coherent state. -/
theorem coherenceKept : Obligations.CoherenceKept := by
  intro s t hs hstep
  obtain ⟨-, hidle⟩ | ⟨rest, -, hreset⟩ | ⟨r, rest, -, hserve⟩ := step_cases s
  · obtain rfl := Host.Outcome.next.inj (hidle.symm.trans hstep)
    exact hs
  · obtain rfl := Host.Outcome.next.inj (hreset.symm.trans hstep)
    exact coherent_with_inputs rest resetIsCoherent
  · obtain rfl := Host.Outcome.next.inj ((hserve.trans (serveRequest_eq r _)).symm.trans hstep)
    exact coherent_answered r _

/-! ### Steps and runs -/

/-- Settles O51: idle, reset and a request each answer a next state, and serving a request keeps the inputs that
are left. -/
theorem everyStepCompletes : Obligations.EveryStepCompletes := by
  intro s
  obtain ⟨hin, hidle⟩ | ⟨rest, hin, hreset⟩ | ⟨r, rest, hin, hserve⟩ := step_cases s
  · exact ⟨s, hidle, by rw [hin, List.tail_nil]⟩
  · exact ⟨_, hreset, by rw [hin, List.tail_cons]⟩
  · exact ⟨_, hserve.trans (serveRequest_eq r _), by rw [hin, List.tail_cons, State.answered_inputs]⟩

theorem step_of_request {s : State} {r : Request} {rest : List HostInput} (h : s.inputs = .request r :: rest) :
    step s = serveRequest r { s with inputs := rest } := by
  simp only [step, serveNext, State.nextInput, State.dropInput, h]
  rfl

/-- Settles O46: the step takes the request, which is served by the operation it decodes to. -/
theorem stepRunsDecodedRequest : Obligations.StepRunsDecodedRequest :=
  fun _ _ _ _ hin hdec _ => (step_of_request hin).trans (serveRequest_of_decode hdec _)

/-- A step of a run serves its first request and leaves the run of the others. -/
theorem step_withRun_cons (r : Request) (rs : List Request) (s : State) :
    step (s.withRun (r :: rs)) = .next ((s.answered (requestCrc s.crc r) (answer r)).withRun rs) :=
  (step_of_request rfl).trans (serveRequest_eq r _)

/-- The responses to a run are those of the pure function, in order (R22, R169). -/
theorem responsesOf_withRun (rs : List Request) (s : State) :
    responsesOf rs.length (s.withRun rs) = rs.map answer := by
  induction rs generalizing s with
  | nil => rfl
  | cons r rs ih =>
    rw [List.length_cons, responsesOf, step_withRun_cons, List.map_cons, ← ih]
    rfl

theorem run_succ_of_step {M : Host.Core} {s t : M.State} (h : M.step s = .next t) (k : ℕ) :
    M.run (k + 1) s = M.run k t := by
  rw [Host.Core.run, h]

/-- A run completes and leaves no input. -/
theorem run_withRun (rs : List Request) (s : State) :
    ∃ t, Host.Core.run core rs.length (s.withRun rs) = .next t ∧ t.inputs = [] := by
  induction rs generalizing s with
  | nil => exact ⟨_, rfl, rfl⟩
  | cons r rs ih =>
    obtain ⟨t, hrun, hin⟩ := ih (s.answered (requestCrc s.crc r) (answer r))
    have hstep : core.step (s.withRun (r :: rs)) = _ := step_withRun_cons r rs s
    exact ⟨t, (run_succ_of_step hstep _).trans hrun, hin⟩

/-- Settles O56: both sides are the pure function's responses. -/
theorem runResponsesIgnoreHistory : Obligations.RunResponsesIgnoreHistory := by
  intro rs s
  have halone : ∀ r, responsesOf 1 (State.reset.withRun [r]) = [answer r] := fun r => responsesOf_withRun [r] _
  refine ⟨?_, run_withRun rs s⟩
  rw [responsesOf_withRun, List.map_eq_flatMap]
  simp only [halone]

/-! ### The register `CRC` -/

/-- Operations outside the checksum family leave `CRC` alone (R11). -/
theorem instrCrc_of_not_checksum {i : Instr} (h : i.isChecksum = false) (c : Byte) : instrCrc c i = c := by
  cases i with
  | crc8Compute | crc8Verify | wordPack | wordUnpack | word3Unpack => cases h
  | _ => rfl

/-- The opcodes that decode are none of R46's list. -/
theorem not_isUnassigned_of_decode {r : Request} {i : Instr} (h : decode r = .ok i) : ¬ IsUnassigned r.op := by
  unfold decode at h
  split at h
  case h_21 => cases h
  all_goals
    rename_i hop
    rw [hop]
    decide

theorem requestCrc_of_isUnassigned {r : Request} (h : IsUnassigned r.op) (c : Byte) : requestCrc c r = c := by
  rw [requestCrc]
  cases hdec : decode r with
  | ok i => exact absurd h (not_isUnassigned_of_decode hdec)
  | error e => rfl

theorem groupsCrc_singleton (c : Byte) (p : BitVec 2 × ByteGroup) : groupsCrc c [p] = crc8 p.2.b0 p.2.b1 := by
  rw [groupsCrc, groupsCrc, ite_self]

/-- The single-payload operations leave the checksum of their payload (R11). -/
theorem instrCrc_crc8Compute (c b0 b1 : Byte) : instrCrc c (.crc8Compute b0 b1) = crc8 b0 b1 := rfl

theorem instrCrc_crc8Verify (c b0 b1 k : Byte) : instrCrc c (.crc8Verify b0 b1 k) = crc8 b0 b1 :=
  groupsCrc_singleton c (0, { b0 := b0, b1 := b1, c := k })

theorem instrCrc_wordUnpack (c b0 b1 k : Byte) : instrCrc c (.wordUnpack b0 b1 k) = crc8 b0 b1 :=
  groupsCrc_singleton c (0, { b0 := b0, b1 := b1, c := k })

theorem exec_crc {i : Instr} {s t : State} (h : exec i s = .next t) : t.crc = instrCrc s.crc i := by
  obtain rfl := Host.Outcome.next.inj ((exec_eq i s).symm.trans h)
  rfl

theorem serveRequest_crc {r : Request} {s t : State} (h : serveRequest r s = .next t) : t.crc = requestCrc s.crc r := by
  obtain rfl := Host.Outcome.next.inj ((serveRequest_eq r s).symm.trans h)
  rfl

/-- After WORD3.UNPACK, `CRC` is the checksum of the last group, or of the one whose index is reported (R11, R67). -/
theorem exec_word3Unpack_crc {g0 g1 g2 : ByteGroup} {s t : State} (h : exec (.word3Unpack g0 g1 g2) s = .next t) :
    (t.st = 0x00#8 → t.crc = crc8 g2.b0 g2.b1) ∧
    (t.st = 0x01#8 →
      t.crc = [crc8 g0.b0 g0.b1, crc8 g1.b0 g1.b1, crc8 g2.b0 g2.b1].getD t.grp.toNat 0#8) := by
  obtain rfl := Host.Outcome.next.inj ((exec_eq _ s).symm.trans h)
  have hne : (0x01#8 : Byte) ≠ 0x00#8 := by decide
  simp only [State.answered_st, State.answered_crc, State.answered_grp, instrCrc, checkedGroups, instrResponse,
    groupsCrc, groupsResponse]
  split_ifs with h0 h1 h2
  · exact ⟨fun _ => rfl, fun hst => absurd hst hne.symm⟩
  · exact ⟨fun hst => absurd hst hne, fun _ => rfl⟩
  · exact ⟨fun hst => absurd hst hne, fun _ => rfl⟩
  · exact ⟨fun hst => absurd hst hne, fun _ => rfl⟩

/-- Settles O18: what `CRC` holds is `instrCrc`, and the pure function, which gives the response, has no `CRC`. -/
theorem crcRegisterDiscipline : Obligations.CrcRegisterDiscipline := by
  refine ⟨fun i s t h hi => (exec_crc h).trans (instrCrc_of_not_checksum hi _),
    fun r s t hr h => (serveRequest_crc h).trans (requestCrc_of_isUnassigned hr _),
    fun b0 b1 c w s t => ⟨?_, fun h => exec_crc h⟩, fun g0 g1 g2 s t h => exec_word3Unpack_crc h,
    fun r s c => ⟨_, _, serveRequest_eq r s, serveRequest_eq r _, rfl⟩⟩
  rintro (hcompute | hverify | hunpack)
  · exact (exec_crc hcompute).trans (instrCrc_crc8Compute ..)
  · exact (exec_crc hverify).trans (instrCrc_crc8Verify ..)
  · exact (exec_crc hunpack).trans (instrCrc_wordUnpack ..)

end Machine
end Sys2Proof
end

section
/-! A request served twice in a row (R37). -/

namespace Sys2Proof
namespace Machine

/-- The checksum family loads `CRC` before it reads it, so what it leaves does not depend on what it found (R11, R61). -/
theorem instrCrc_of_checksum {i : Instr} (h : i.isChecksum = true) (c c' : Byte) : instrCrc c i = instrCrc c' i := by
  cases i with
  | crc8Compute | crc8Verify | wordPack | wordUnpack | word3Unpack => rfl
  | _ => cases h

theorem instrCrc_idem (c : Byte) (i : Instr) : instrCrc (instrCrc c i) i = instrCrc c i := by
  cases h : i.isChecksum with
  | true => exact instrCrc_of_checksum h _ _
  | false => exact instrCrc_of_not_checksum h _

theorem requestCrc_idem (c : Byte) (r : Request) : requestCrc (requestCrc c r) r = requestCrc c r := by
  unfold requestCrc
  cases decode r with
  | ok i => exact instrCrc_idem c i
  | error e => rfl

/-- An answer writes the same six registers as the one before it. -/
@[simp] theorem State.answered_answered (s : State) (c c' : Byte) (q q' : Response) :
    (s.answered c q).answered c' q' = s.answered c' q' := rfl

/-- Settles O52: the response is that of the pure function again, and serving the request leaves in `CRC` what it left
there before. -/
theorem repeatedRequestIsIdempotent : Obligations.RepeatedRequestIsIdempotent := by
  intro r s
  refine ⟨_, serveRequest_eq r s, ?_⟩
  rw [serveRequest_eq, State.answered_crc, requestCrc_idem, State.answered_answered]

end Machine
end Sys2Proof
end

section
/-! The operands of each format: what is read of an assembled `ARG`, and which bits of an `ARG` are kept when what is
read of it is assembled again (R42, R45, R50). -/

namespace Sys2Proof

/-! ### Reading what was assembled -/

theorem argByte_argOfB2 (b0 b1 : Byte) : argByte (argOfB2 b0 b1) 0 = b0 ∧ argByte (argOfB2 b0 b1) 1 = b1 := by
  simp only [BitVec.toNat_eq, argByte_toNat, argOfB2_toNat]
  omega

theorem argByte_argOfB3 (b0 b1 c : Byte) :
    argByte (argOfB3 b0 b1 c) 0 = b0 ∧ argByte (argOfB3 b0 b1 c) 1 = b1 ∧ argByte (argOfB3 b0 b1 c) 2 = c := by
  simp only [BitVec.toNat_eq, argByte_toNat, argOfB3_toNat]
  omega

/-- Format `B9` is three numbers of three bytes. -/
theorem argOfB9_toNat (g0 g1 g2 : ByteGroup) :
    (argOfB9 g0 g1 g2).toNat = (g0.b0 ++ g0.b1 ++ g0.c).toNat * 2 ^ 48 + (g1.b0 ++ g1.b1 ++ g1.c).toNat * 2 ^ 24 +
      (g2.b0 ++ g2.b1 ++ g2.c).toNat := by
  simp only [argOfB9, toNat_append_eq]
  omega

theorem argGroup_argOfB9 (g0 g1 g2 : ByteGroup) :
    argGroup (argOfB9 g0 g1 g2) 0 = g0 ∧ argGroup (argOfB9 g0 g1 g2) 1 = g1 ∧
      argGroup (argOfB9 g0 g1 g2) 2 = g2 := by
  obtain ⟨b00, b01, c0⟩ := g0
  obtain ⟨b10, b11, c1⟩ := g1
  obtain ⟨b20, b21, c2⟩ := g2
  simp only [argGroup, ByteGroup.mk.injEq, BitVec.toNat_eq, argByte_toNat, argOfB9_toNat, toNat_append_eq]
  refine ⟨?_, ?_, ?_⟩ <;> omega

theorem argWord_argOfW (w : Word) : argWord (argOfW w) 0 = w := by
  rw [argWord_eq_extract _ 0 (by omega)]
  exact BitVec.extractLsb'_append_eq_left

theorem argWord_argOfW3 (w0 w1 w2 : Word) :
    argWord (argOfW3 w0 w1 w2) 0 = w0 ∧ argWord (argOfW3 w0 w1 w2) 2 = w1 ∧ argWord (argOfW3 w0 w1 w2) 4 = w2 := by
  rw [argWord_eq_extract _ 0 (by omega), argWord_eq_extract _ 2 (by omega), argWord_eq_extract _ 4 (by omega)]
  simp only [BitVec.toNat_eq, BitVec.extractLsb'_toNat, Nat.shiftRight_eq_div_pow, argOfW3_toNat]
  omega

theorem argFloat_argOfF (x : F32) : argFloat (argOfF x) = x := by
  rw [argFloat_eq_extract]
  exact BitVec.extractLsb'_append_eq_left

theorem argFlag_argOfL (e : Bool) : argFlag (argOfL e) = e := by
  cases e <;> rfl

/-! ### Assembling what was read -/

/-- A mask of the bits from `v` up keeps those and clears the others. -/
theorem and_highMask {w v : Nat} (a : BitVec (w + v)) :
    a &&& (BitVec.allOnes w ++ 0#v) = a.extractLsb' v w ++ 0#v := by
  have hsplit : a.extractLsb' v w ++ a.extractLsb' 0 v = a :=
    (BitVec.extractLsb'_append_extractLsb'_eq_extractLsb' (Nat.zero_add v).symm).trans BitVec.extractLsb'_eq_self
  calc a &&& (BitVec.allOnes w ++ 0#v)
      = (a.extractLsb' v w ++ a.extractLsb' 0 v) &&& (BitVec.allOnes w ++ 0#v) := by rw [hsplit]
    _ = a.extractLsb' v w ++ 0#v := by rw [BitVec.and_append, BitVec.and_allOnes, BitVec.and_zero]

theorem argOfW_argWord (a : Arg) : argOfW (argWord a 0) = a &&& Format.w.readMask := by
  rw [argOfW, argWord_eq_extract a 0 (by omega)]
  exact (and_highMask (w := 16) (v := 56) a).symm

/-- Two bytes are a word. -/
theorem argOfB2_argByte (a : Arg) : argOfB2 (argByte a 0) (argByte a 1) = a &&& Format.b2.readMask :=
  argOfW_argWord a

/-- Three bytes are twenty-four consecutive bits of `ARG`. -/
theorem argBytes_eq_extract (a : Arg) (i : Nat) (h : i ≤ 6) :
    argByte a i ++ argByte a (i + 1) ++ argByte a (i + 2) = a.extractLsb' (48 - 8 * i) 24 := by
  have hlow : 64 - 8 * (i + 2) = 48 - 8 * i := by omega
  have hhigh : 56 - 8 * i = 48 - 8 * i + 8 := by omega
  calc argByte a i ++ argByte a (i + 1) ++ argByte a (i + 2)
      = a.extractLsb' (56 - 8 * i) 16 ++ a.extractLsb' (48 - 8 * i) 8 :=
        congrArg₂ (· ++ ·) (argWord_eq_extract a i (by omega)) (by rw [argByte, hlow])
    _ = a.extractLsb' (48 - 8 * i) 24 := BitVec.extractLsb'_append_extractLsb'_eq_extractLsb' hhigh

theorem argOfB3_argByte (a : Arg) :
    argOfB3 (argByte a 0) (argByte a 1) (argByte a 2) = a &&& Format.b3.readMask := by
  rw [argOfB3, argBytes_eq_extract a 0 (by omega)]
  exact (and_highMask (w := 24) (v := 48) a).symm

theorem argOfB9_argGroup (a : Arg) :
    argOfB9 (argGroup a 0) (argGroup a 1) (argGroup a 2) = a &&& Format.b9.readMask := by
  have hall : a &&& Format.b9.readMask = a := BitVec.and_allOnes
  apply BitVec.eq_of_toNat_eq
  rw [hall, argOfB9_toNat]
  simp only [argGroup]
  rw [argBytes_eq_extract a (3 * 0) (by omega), argBytes_eq_extract a (3 * 1) (by omega),
    argBytes_eq_extract a (3 * 2) (by omega)]
  simp only [BitVec.extractLsb'_toNat, Nat.shiftRight_eq_div_pow]
  omega

theorem argOfW3_argWord (a : Arg) :
    argOfW3 (argWord a 0) (argWord a 2) (argWord a 4) = a &&& Format.w3.readMask := by
  have hread : argWord a 0 ++ argWord a 2 ++ argWord a 4 = a.extractLsb' 24 48 := by
    rw [argWord_eq_extract a 0 (by omega), argWord_eq_extract a 2 (by omega), argWord_eq_extract a 4 (by omega)]
    apply BitVec.eq_of_toNat_eq
    simp only [toNat_append_eq, BitVec.extractLsb'_toNat, Nat.shiftRight_eq_div_pow]
    omega
  rw [argOfW3, hread]
  exact (and_highMask (w := 48) (v := 24) a).symm

theorem argOfF_argFloat (a : Arg) : argOfF (argFloat a) = a &&& Format.f.readMask := by
  rw [argOfF, argFloat_eq_extract]
  exact (and_highMask (w := 32) (v := 40) a).symm

/-- Of format `L` bit 64 alone is read. -/
theorem argOfL_argFlag (a : Arg) : argOfL (argFlag a) = a &&& Format.l.readMask := by
  have hmask : Format.l.readMask = BitVec.twoPow 72 64 := rfl
  rw [argFlag_eq_bit, hmask, BitVec.and_twoPow]
  cases a.getLsbD 64 <;> rfl

end Sys2Proof
end

section
/-! The decoder and the encoder as inverses of each other, the opcodes that are none, and a presented word
(R40, R41, R42, R44 to R46, R50). -/

namespace Sys2Proof
namespace Machine

/-! ### Decoding and encoding -/

/-- Settles O1: what each format reads of its assembled operand is the operand. -/
theorem decodeAfterEncode : Obligations.DecodeAfterEncode := by
  intro i _
  cases i with
  | crc8Compute b0 b1 => simp [decode, encode, opcodeOf, argOf, argByte_argOfB2]
  | crc8Verify b0 b1 c | wordUnpack b0 b1 c => simp [decode, encode, opcodeOf, argOf, argByte_argOfB3]
  | word3Unpack g0 g1 g2 => simp [decode, encode, opcodeOf, argOf, argGroup_argOfB9]
  | wordPack w | cvtCo2Fromw w | cvtTempFromw w | cvtRhFromw w | cvtToffFromw w | cvtAltFromw w | cvtFrcFromw w
  | cvtCo2Tow w | decDrdy w | decSelftest w | decAsc w => simp [decode, encode, opcodeOf, argOf, argWord_argOfW]
  | cvtToffTow x | cvtAltTow x | cvtPresTow x => simp [decode, encode, opcodeOf, argOf, argFloat_argOfF]
  | encAsc e => simp [decode, encode, opcodeOf, argOf, argFlag_argOfL]
  | decSerial w0 w1 w2 => simp [decode, encode, opcodeOf, argOf, argWord_argOfW3]

/-- R47: no operand makes an operation ill-formed. -/
theorem wf_eq_true (i : Instr) : i.wf = true := by
  cases i <;> rfl

theorem encode_injective : Function.Injective encode := by
  intro i j h
  have hdec := congrArg decode h
  rw [decodeAfterEncode i (wf_eq_true i), decodeAfterEncode j (wf_eq_true j)] at hdec
  exact Except.ok.inj hdec

/-- Settles O2: what each format reads, assembled again, is the `ARG` under the format's mask. The branches of `decode`
are the rows of R44's table, taken by format; those of format `W` come last. -/
theorem encodeAfterDecode : Obligations.EncodeAfterDecode := by
  intro r i h
  unfold decode at h
  split at h
  case h_21 => cases h
  all_goals
    rename_i hop
    cases h
    refine ⟨hop.symm, ?_⟩
  case h_1 => exact argOfB2_argByte r.arg
  case h_2 | h_4 => exact argOfB3_argByte r.arg
  case h_5 => exact argOfB9_argGroup r.arg
  case h_13 | h_14 | h_15 => exact argOfF_argFloat r.arg
  case h_19 => exact argOfL_argFlag r.arg
  case h_20 => exact argOfW3_argWord r.arg
  all_goals exact argOfW_argWord r.arg

/-- `OP` alone says which operation a request is, and so its format (R41, R44). -/
theorem decode_of_opcode (i : Instr) (a : Arg) :
    ∃ j, decode { op := opcodeOf i, arg := a } = .ok j ∧ j.format = i.format := by
  cases i <;> exact ⟨_, rfl, rfl⟩

/-- Requests with the same `OP` that agree under the mask decode alike: both decode, and to operations whose requests,
assembled, are the same. -/
theorem decode_congr_of_readMask {r r' : Request} {i : Instr} (h : decode r = .ok i) (hop : r'.op = r.op)
    (harg : r'.arg &&& i.format.readMask = r.arg &&& i.format.readMask) : decode r' = .ok i := by
  obtain ⟨hiop, hiarg⟩ := encodeAfterDecode r i h
  have hr' : r' = { op := opcodeOf i, arg := r'.arg } := by rw [show opcodeOf i = r'.op from hiop.trans hop.symm]
  obtain ⟨j, hj, hformat⟩ := decode_of_opcode i r'.arg
  rw [← hr'] at hj
  obtain ⟨hjop, hjarg⟩ := encodeAfterDecode r' j hj
  have hsame : encode j = encode i :=
    congrArg₂ Request.mk (hjop.trans (hop.trans hiop.symm)) (hjarg.trans (hformat ▸ harg.trans hiarg.symm))
  rw [hj, encode_injective hsame]

/-- Settles O3: the two requests decode alike, and serving a request sees no more of it. -/
theorem unreadBitsIgnored : Obligations.UnreadBitsIgnored := by
  intro r r' i h hop harg
  have h' := decode_congr_of_readMask h hop harg
  exact ⟨h', fun s => (serveRequest_of_decode h' s).trans (serveRequest_of_decode h s).symm⟩

/-! ### Unassigned opcodes -/

/-- An `OP` that is none of the twenty lies in one of the ranges of R46's list. -/
theorem isUnassigned_of_decode_error {r : Request} {e : DecodeError} (h : decode r = .error e) : IsUnassigned r.op := by
  unfold decode at h
  split at h
  case h_21 =>
    unfold IsUnassigned
    simp only [imp_false] at *
    bv_omega
  all_goals cases h

/-- A request decodes just when its `OP` is not on R46's list. -/
theorem exists_decode_iff (r : Request) : (∃ i, decode r = .ok i) ↔ ¬ IsUnassigned r.op := by
  refine ⟨fun ⟨_, h⟩ => not_isUnassigned_of_decode h, fun hop => ?_⟩
  cases h : decode r with
  | ok i => exact ⟨i, rfl⟩
  | error e => exact absurd (isUnassigned_of_decode_error h) hop

theorem serveRequest_of_isUnassigned {r : Request} (h : IsUnassigned r.op) (s : State) :
    serveRequest r s = .next s.afterIllegal := by
  cases hdec : decode r with
  | ok i => exact absurd h (not_isUnassigned_of_decode hdec)
  | error e => rw [serveRequest_of_illegal hdec, State.raiseIllegalOp_eq_afterIllegal]

set_option maxRecDepth 8192 in
/-- R46's list has 236 values. -/
theorem length_unassigned :
    ((List.range 256).filter fun n => decide (IsUnassigned (BitVec.ofNat 8 n))).length = 236 := by
  decide

/-- Settles O4: an `OP` on the list does not decode, every other does, and decoding keeps `OP`. -/
theorem unassignedOpIsIllegal : Obligations.UnassignedOpIsIllegal := by
  refine ⟨fun r s h => serveRequest_of_isUnassigned h s, fun r h => ?_, length_unassigned⟩
  obtain ⟨i, hi⟩ := (exists_decode_iff r).2 h
  exact ⟨i, hi, (encodeAfterDecode r i hi).1⟩

/-! ### Words -/

/-- Settles O5: six closed words, evaluated. -/
theorem assemblerExamplesDecode : Obligations.AssemblerExamplesDecode := by
  unfold Obligations.AssemblerExamplesDecode
  decide

theorem decode_of_decodeTableWord {nbits w : Nat} {i : Instr} (h : decodeTableWord nbits w = some i) :
    decode (requestOfBits (BitVec.ofNat 80 (w % 2 ^ nbits))) = .ok i := by
  unfold decodeTableWord at h
  split at h
  case h_1 hdec => rw [hdec, Option.some.inj h]
  case h_2 => cases h

/-- Settles O47: the word's request stands first among the inputs, and the step that takes it leaves the state as it
was before it was presented. -/
theorem presentedWordRunsNext : Obligations.PresentedWordRunsNext :=
  fun s _ _ _ h =>
    (step_of_request (rest := s.inputs) rfl).trans (serveRequest_of_decode (decode_of_decodeTableWord h) s)

end Machine
end Sys2Proof
end

section
/-! The bit step, the byte step and the checksum as functions over GF(2) (R60, R61, R69). -/

namespace Sys2Proof
namespace Machine

/-! ### The bit step -/

/-- R60's test "if `c[7] = 1`" is a comparison of numbers. -/
theorem getLsbD_7_eq (c : Byte) : c.getLsbD 7 = decide (c.toNat / 128 = 1) := by
  have hbit : c.getLsbD 7 = decide (c.toNat / 2 ^ 7 % 2 = 1) := Nat.testBit_eq_decide_div_mod_eq
  rw [hbit]
  exact decide_eq_decide.2 (by omega)

theorem bitStep_toNat (c : Byte) :
    (bitStep c).toNat = if c.toNat / 128 = 1 then (2 * c.toNat % 256) ^^^ 0x31 else 2 * c.toNat % 256 := by
  have hshift : (c <<< 1).toNat = 2 * c.toNat % 256 := by
    rw [BitVec.toNat_shiftLeft, Nat.shiftLeft_eq, Nat.mul_comm]
  rw [bitStep, getLsbD_7_eq]
  simp only [decide_eq_true_eq, apply_ite BitVec.toNat, BitVec.toNat_xor, hshift]
  rfl

theorem byteStep_eq_iterate (c : Byte) : byteStep c = bitStep^[8] c := rfl

/-- Settles O6, by the integer form of the shift and of the top bit. -/
theorem bitStepAndByteStep : Obligations.BitStepAndByteStep :=
  ⟨bitStep_toNat, byteStep_eq_iterate⟩

/-- XOR with `p` under a linear test is linear: where both operands pass the test, `p` cancels. -/
theorem ite_xor_linear {α : Type*} [XorOp α] [Zero α] [LawfulXor α] (a b : Bool) (x y p : α) :
    (if a ^^ b then x ^^^ y ^^^ p else x ^^^ y) = (if a then x ^^^ p else x) ^^^ (if b then y ^^^ p else y) := by
  cases a <;> cases b
  case false.false => rfl
  case false.true => exact xor_assoc x y p
  case true.false =>
    change x ^^^ y ^^^ p = x ^^^ p ^^^ y
    rw [xor_assoc, xor_comm y, xor_assoc]
  case true.true =>
    change x ^^^ y = x ^^^ p ^^^ (y ^^^ p)
    rw [xor_comm y p, ← xor_assoc, xor_cancel_right]

theorem bitStep_xor (x y : Byte) : bitStep (x ^^^ y) = bitStep x ^^^ bitStep y := by
  rw [bitStep, BitVec.getLsbD_xor, BitVec.shiftLeft_xor_distrib]
  exact ite_xor_linear ..

/-- The bit shifted out stands in bit 0, since the polynomial is odd. -/
theorem getLsbD_zero_bitStep (c : Byte) : (bitStep c).getLsbD 0 = c.getLsbD 7 := by
  rw [bitStep]
  cases c.getLsbD 7
  · simp
  · simp [crcPoly]

theorem bitStep_injective : Function.Injective bitStep := by
  intro x y h
  have htop : x.getLsbD 7 = y.getLsbD 7 := by
    rw [← getLsbD_zero_bitStep, h, getLsbD_zero_bitStep]
  have hnat := congrArg BitVec.toNat h
  rw [getLsbD_7_eq, getLsbD_7_eq, decide_eq_decide] at htop
  rw [bitStep_toNat, bitStep_toNat] at hnat
  apply BitVec.eq_of_toNat_eq
  split_ifs at hnat
  · have := Nat.xor_left_inj.1 hnat
    omega
  all_goals omega

/-! ### The byte step -/

theorem byteStep_xor (x y : Byte) : byteStep (x ^^^ y) = byteStep x ^^^ byteStep y := by
  simp only [byteStep, bitStep_xor]

theorem byteStep_zero : byteStep 0#8 = 0#8 := rfl

theorem byteStep_bijective : Function.Bijective byteStep :=
  (Finite.injective_iff_bijective.1 bitStep_injective).iterate 8

theorem byteStep_eq_zero_iff (c : Byte) : byteStep c = 0#8 ↔ c = 0#8 :=
  byteStep_bijective.injective.eq_iff' byteStep_zero

/-! ### The checksum -/

theorem crc8_eq (b0 b1 : Byte) : crc8 b0 b1 = byteStep (byteStep (0xFF#8 ^^^ b0) ^^^ b1) :=
  BitVec.xor_zero

/-- Settles O7: there is no final XOR, and the register is fed as the function is. -/
theorem crcOfTwoBytes : Obligations.CrcOfTwoBytes := fun b0 b1 s =>
  ⟨crc8_eq b0 b1, by rw [State.crcRun_eq, crc8_eq]⟩

/-- An error pattern in the payload changes the checksum by what depends on the pattern alone. -/
theorem crc8_xor (b0 b1 e0 e1 : Byte) :
    crc8 (b0 ^^^ e0) (b1 ^^^ e1) = crc8 b0 b1 ^^^ byteStep (byteStep e0 ^^^ e1) := by
  rw [crc8_eq, crc8_eq]
  calc byteStep (byteStep (0xFF#8 ^^^ (b0 ^^^ e0)) ^^^ (b1 ^^^ e1))
      = byteStep (byteStep (0xFF#8 ^^^ b0) ^^^ byteStep e0 ^^^ (b1 ^^^ e1)) := by
        rw [← BitVec.xor_assoc 0xFF#8, byteStep_xor (0xFF#8 ^^^ b0)]
    _ = byteStep (byteStep (0xFF#8 ^^^ b0) ^^^ b1 ^^^ (byteStep e0 ^^^ e1)) := by ac_rfl
    _ = byteStep (byteStep (0xFF#8 ^^^ b0) ^^^ b1) ^^^ byteStep (byteStep e0 ^^^ e1) := byteStep_xor ..

set_option maxRecDepth 8192 in
/-- Settles O9, by the linearity of the bit step and its injectivity. -/
theorem crcIsAffine : Obligations.CrcIsAffine :=
  ⟨fun x y => ⟨bitStep_xor x y, byteStep_xor x y⟩, byteStep_zero, byteStep_bijective, crc8_xor, by decide⟩

/-! ### Each byte of the payload alone -/

theorem xor_bijective (c : Byte) : Function.Bijective (c ^^^ ·) :=
  (show Function.Involutive (c ^^^ ·) from xor_cancel_left c).bijective

theorem crc8_bijective_low (b0 : Byte) : Function.Bijective (crc8 b0) := by
  have h : crc8 b0 = byteStep ∘ (byteStep (0xFF#8 ^^^ b0) ^^^ ·) := funext (crc8_eq b0)
  rw [h]
  exact byteStep_bijective.comp (xor_bijective _)

theorem crc8_bijective_high (b1 : Byte) : Function.Bijective fun b0 => crc8 b0 b1 := by
  have h : (fun b0 => crc8 b0 b1) = byteStep ∘ (b1 ^^^ ·) ∘ byteStep ∘ (0xFF#8 ^^^ ·) := funext fun b0 => by
    rw [crc8_eq, BitVec.xor_comm _ b1]
    rfl
  rw [h]
  exact byteStep_bijective.comp ((xor_bijective b1).comp (byteStep_bijective.comp (xor_bijective _)))

/-- Of the payloads with the high byte `hi`, written as numbers, one has the checksum `c`. -/
theorem count_crc8_low (c : Byte) (hi : ℕ) :
    Nat.count (fun k => crc8 (BitVec.ofNat 8 ((256 * hi + k) / 256)) (BitVec.ofNat 8 ((256 * hi + k) % 256)) = c)
      256 = 1 := by
  obtain ⟨b, hb⟩ := (crc8_bijective_low (BitVec.ofNat 8 hi)).surjective c
  rw [Nat.count_eq_card_filter_range, Finset.card_eq_one]
  refine ⟨b.toNat, Finset.ext fun k => ?_⟩
  rw [Finset.mem_filter, Finset.mem_range, Finset.mem_singleton]
  constructor
  · rintro ⟨hk, hc⟩
    rw [show (256 * hi + k) / 256 = hi by omega, show (256 * hi + k) % 256 = k by omega, ← hb] at hc
    rw [← (crc8_bijective_low _).injective hc, BitVec.toNat_ofNat, Nat.mod_eq_of_lt hk]
  · rintro rfl
    have hlt := b.isLt
    rw [show (256 * hi + b.toNat) / 256 = hi by omega, show (256 * hi + b.toNat) % 256 = b.toNat by omega,
      BitVec.ofNat_toNat, BitVec.setWidth_eq]
    exact ⟨hlt, hb⟩

/-- One payload for each high byte. -/
theorem count_crc8 (c : Byte) (m : ℕ) :
    Nat.count (fun n => crc8 (BitVec.ofNat 8 (n / 256)) (BitVec.ofNat 8 (n % 256)) = c) (256 * m) = m := by
  induction m with
  | zero => rfl
  | succ m ih => rw [Nat.mul_succ, Nat.count_add, ih, count_crc8_low]

theorem length_filter_crc8 (c : Byte) :
    ((List.range 65536).filter fun n =>
      crc8 (BitVec.ofNat 8 (n / 256)) (BitVec.ofNat 8 (n % 256)) == c).length = 256 := by
  rw [← List.countP_eq_length_filter]
  exact count_crc8 c 256

theorem byteStep_crc8_xor_eq_zero_iff (b0 b1 c : Byte) : byteStep (crc8 b0 b1 ^^^ c) = 0#8 ↔ crc8 b0 b1 = c :=
  (byteStep_eq_zero_iff _).trans BitVec.xor_eq_zero_iff

/-- Settles O10: the byte step and XOR with a byte are bijections. -/
theorem crcIsBalanced : Obligations.CrcIsBalanced :=
  ⟨crc8_bijective_low, crc8_bijective_high, length_filter_crc8,
    fun b0 b1 c => (byteStep_crc8_xor_eq_zero_iff b0 b1 c).symm⟩

end Machine
end Sys2Proof
end

section
/-! The checksum as the remainder of a long division over GF(2) (R60, R61): the division is linear, and one step of it
on a byte that stands at the top is the bit step. -/

namespace Sys2Proof
namespace Machine

/-- One step of the long division: bit `k + 8` of the dividend is cleared. -/
def divisionStep (k v : ℕ) : ℕ := if v.testBit (k + 8) then v ^^^ (0x131 <<< k) else v

theorem divideOut_succ (k v : ℕ) : divideOut (k + 1) v = divideOut k (divisionStep k v) := rfl

theorem divisionStep_xor (k x y : ℕ) : divisionStep k (x ^^^ y) = divisionStep k x ^^^ divisionStep k y := by
  rw [divisionStep, Nat.testBit_xor]
  exact ite_xor_linear ..

theorem divideOut_xor (k x y : ℕ) : divideOut k (x ^^^ y) = divideOut k x ^^^ divideOut k y := by
  induction k generalizing x y with
  | zero => rfl
  | succ k ih => rw [divideOut_succ, divideOut_succ, divideOut_succ, divisionStep_xor, ih]

/-- Bits of the dividend above its length are not there to be cleared. -/
theorem divideOut_add_of_lt {m v : ℕ} (hv : v < 2 ^ (m + 8)) (k : ℕ) : divideOut (m + k) v = divideOut m v := by
  induction k with
  | zero => rfl
  | succ k ih =>
    have hbit : v.testBit (m + k + 8) = false :=
      Nat.testBit_lt_two_pow (hv.trans_le (Nat.pow_le_pow_right two_pos (by omega)))
    rw [← Nat.add_assoc, divideOut_succ, divisionStep, hbit]
    exact ih

/-- The generator's top coefficient meets the bit that is shifted out, and its other eight are `CRC_POLY`. -/
theorem divisionStep_shiftLeft (k : ℕ) (c : Byte) :
    divisionStep k (c.toNat <<< (k + 1)) = (bitStep c).toNat <<< k := by
  have hlt := c.isLt
  have hbit : ((2 * c.toNat) <<< k).testBit (k + 8) = decide (c.toNat / 128 = 1) := by
    rw [Nat.testBit_shiftLeft, Nat.add_sub_cancel_left, Nat.testBit_eq_decide_div_mod_eq]
    rw [decide_eq_true (Nat.le_add_right k 8), Bool.true_and]
    exact decide_eq_decide.2 (by omega)
  rw [divisionStep, Nat.shiftLeft_succ_inside, hbit, bitStep_toNat]
  by_cases htop : c.toNat / 128 = 1
  · have hlow : (2 * c.toNat ^^^ 0x131) % 256 = 2 * c.toNat % 256 ^^^ 0x31 := Nat.xor_mod_two_pow (n := 8)
    have hhigh : (2 * c.toNat ^^^ 0x131) / 2 ^ 8 = 0 := by
      rw [Nat.xor_div_two_pow, show 2 * c.toNat / 2 ^ 8 = 1 by omega]
      rfl
    rw [if_pos (decide_eq_true htop), if_pos htop, ← Nat.shiftLeft_xor_distrib]
    congr 1
    omega
  · rw [if_neg (by simpa using htop), if_neg htop, Nat.mod_eq_of_lt (by omega)]

/-- A byte alone, with `k` zeros below it, is divided by `k` bit steps. -/
theorem divideOut_shiftLeft (k : ℕ) (c : Byte) : divideOut k (c.toNat <<< k) = (bitStep^[k] c).toNat := by
  induction k generalizing c with
  | zero => rfl
  | succ k ih => rw [divideOut_succ, divisionStep_shiftLeft, ih, Function.iterate_succ_apply]

/-- Numbers without a common bit add by XOR. -/
theorem mul_two_pow_add_eq_xor {i b : ℕ} (h : b < 2 ^ i) (a : ℕ) : a * 2 ^ i + b = a <<< i ^^^ b := by
  have hlow : (a <<< i ^^^ b) % 2 ^ i = b := by
    rw [Nat.xor_mod_two_pow, Nat.shiftLeft_eq, Nat.mul_mod_left, Nat.zero_xor, Nat.mod_eq_of_lt h]
  have hhigh : (a <<< i ^^^ b) / 2 ^ i = a := by
    rw [Nat.xor_div_two_pow, Nat.shiftLeft_eq, Nat.mul_div_cancel _ (Nat.two_pow_pos i), Nat.div_eq_of_lt h,
      Nat.xor_zero]
  rw [← Nat.div_add_mod' (a <<< i ^^^ b) (2 ^ i), hlow, hhigh]

/-- The dividend as the XOR of the two bytes, each at its place. -/
theorem dividend_eq (b0 b1 : Byte) :
    (256 * (255 - b0.toNat) + b1.toNat) * 256 = (0xFF#8 ^^^ b0).toNat <<< 16 ^^^ b1.toNat <<< 8 := by
  have hnot : (0xFF#8 ^^^ b0).toNat = 255 - b0.toNat := by
    rw [show 0xFF#8 ^^^ b0 = ~~~b0 from BitVec.allOnes_xor]
    exact BitVec.toNat_not
  have hlow : b1.toNat <<< 8 < 2 ^ 16 := Nat.shiftLeft_lt b1.isLt
  rw [hnot, ← mul_two_pow_add_eq_xor hlow, Nat.shiftLeft_eq]
  omega

/-- Settles O8: by linearity each byte of the payload is divided alone, the first by sixteen bit steps and the second by
eight. -/
theorem crcIsPolynomialRemainder : Obligations.CrcIsPolynomialRemainder := by
  intro b0 b1
  have hfirst := divideOut_shiftLeft 16 (0xFF#8 ^^^ b0)
  have hsecond : divideOut 16 (b1.toNat <<< 8) = (byteStep b1).toNat :=
    (divideOut_add_of_lt (m := 8) (Nat.shiftLeft_lt b1.isLt) 8).trans (divideOut_shiftLeft 8 b1)
  rw [crcRemainder, dividend_eq, divideOut_xor, hfirst, hsecond, crc8_eq, byteStep_xor, BitVec.toNat_xor]
  rfl

end Machine
end Sys2Proof
end

section
/-! The checksum family: its requests, its results, and what they say of frames that are packed, checked and damaged
(R63 to R69). -/

namespace Sys2Proof
namespace Machine

/-! ### Results as numbers -/

theorem layoutR8_eq_ofNat (c : Byte) : layoutR8 c = BitVec.ofNat 48 c.toNat := (BitVec.ofNat_toNat 48 c).symm

theorem layoutRw_bytes_eq_ofNat (hi lo : Byte) :
    layoutRw (hi ++ lo) = BitVec.ofNat 48 (256 * hi.toNat + lo.toNat) := by
  rw [layoutRw, ← BitVec.ofNat_toNat, toNat_append_eq, Nat.mul_comm]
  rfl

theorem layoutFrame_toNat (hi lo c : Byte) :
    (layoutFrame hi lo c).toNat = 65536 * hi.toNat + 256 * lo.toNat + c.toNat := by
  have := (hi ++ lo ++ c).isLt
  rw [layoutFrame, BitVec.toNat_setWidth, Nat.mod_eq_of_lt (by omega), toNat_append_eq, toNat_append_eq]
  omega

theorem layoutRw3_bytes_eq_ofNat (a b c d e f : Byte) :
    layoutRw3 (a ++ b) (c ++ d) (e ++ f) =
      BitVec.ofNat 48 ((256 * a.toNat + b.toNat) * 2 ^ 32 + (256 * c.toNat + d.toNat) * 2 ^ 16 +
        (256 * e.toNat + f.toNat)) := by
  have hnat : (layoutRw3 (a ++ b) (c ++ d) (e ++ f)).toNat =
      (256 * a.toNat + b.toNat) * 2 ^ 32 + (256 * c.toNat + d.toNat) * 2 ^ 16 + (256 * e.toNat + f.toNat) := by
    simp only [layoutRw3, toNat_append_eq]
    omega
  rw [← hnat, BitVec.ofNat_toNat, BitVec.setWidth_eq]

/-- The bytes of a frame stand in `RES` where WORD.UNPACK's operand takes them from (R43, R65, R66). -/
theorem extract_layoutFrame (hi lo c : Byte) :
    (layoutFrame hi lo c).extractLsb' 16 8 = hi ∧ (layoutFrame hi lo c).extractLsb' 8 8 = lo ∧
      (layoutFrame hi lo c).extractLsb' 0 8 = c := by
  simp only [BitVec.toNat_eq, BitVec.extractLsb'_toNat, Nat.shiftRight_eq_div_pow, layoutFrame_toNat]
  omega

theorem highByte_append_lowByte (w : Word) : w.extractLsb' 8 8 ++ w.extractLsb' 0 8 = w :=
  (BitVec.extractLsb'_append_extractLsb'_eq_extractLsb' rfl).trans BitVec.extractLsb'_eq_self

theorem highByte_eq_ofNat (w : Word) : w.extractLsb' 8 8 = BitVec.ofNat 8 (w.toNat / 256) :=
  congrArg (BitVec.ofNat 8) (Nat.shiftRight_eq_div_pow w.toNat 8)

theorem lowByte_eq_ofNat (w : Word) : w.extractLsb' 0 8 = BitVec.ofNat 8 (w.toNat % 256) := by
  apply BitVec.eq_of_toNat_eq
  rw [BitVec.extractLsb'_toNat, BitVec.toNat_ofNat]
  omega

/-! ### The operations -/

/-- Settles O12. -/
theorem checksumComputeResult : Obligations.ChecksumComputeResult :=
  ⟨fun _ => rfl, fun b0 b1 s => by rw [← layoutR8_eq_ofNat]; rfl⟩

theorem exec_crc8Verify_of_match {b0 b1 c : Byte} (h : crc8 b0 b1 = c) (s : State) :
    exec (.crc8Verify b0 b1 c) s = .next (State.afterOk { s with crc := crc8 b0 b1 } 0#48) :=
  congrArg Host.Outcome.next (s.verifyGroup_of_match 0#2 { b0 := b0, b1 := b1, c := c } _ h)

theorem exec_crc8Verify_of_mismatch {b0 b1 c : Byte} (h : crc8 b0 b1 ≠ c) (s : State) :
    exec (.crc8Verify b0 b1 c) s =
      .next (State.afterMismatch { s with crc := crc8 b0 b1 } (crc8 b0 b1) c 0#2) :=
  congrArg Host.Outcome.next (s.verifyGroup_of_mismatch 0#2 { b0 := b0, b1 := b1, c := c } _ h)

/-- Settles O13: the two outcomes of the check of one group. -/
theorem checksumVerifyResult : Obligations.ChecksumVerifyResult :=
  ⟨fun _ => rfl, fun _ _ _ s => ⟨(exec_crc8Verify_of_match · s), (exec_crc8Verify_of_mismatch · s)⟩⟩

theorem exec_wordUnpack_of_match {b0 b1 c : Byte} (h : crc8 b0 b1 = c) (s : State) :
    exec (.wordUnpack b0 b1 c) s = .next (State.afterOk { s with crc := crc8 b0 b1 } (layoutRw (b0 ++ b1))) :=
  congrArg Host.Outcome.next (s.verifyGroup_of_match 0#2 { b0 := b0, b1 := b1, c := c } _ h)

theorem exec_wordUnpack_of_mismatch {b0 b1 c : Byte} (h : crc8 b0 b1 ≠ c) (s : State) :
    exec (.wordUnpack b0 b1 c) s =
      .next (State.afterMismatch { s with crc := crc8 b0 b1 } (crc8 b0 b1) c 0#2) :=
  congrArg Host.Outcome.next (s.verifyGroup_of_mismatch 0#2 { b0 := b0, b1 := b1, c := c } _ h)

/-- Settles O15: the two outcomes of the check of one group. -/
theorem wordUnpackResult : Obligations.WordUnpackResult := by
  refine ⟨fun _ => rfl, fun b0 b1 c s => ⟨fun h => ?_, (exec_wordUnpack_of_mismatch · s)⟩⟩
  rw [← layoutRw_bytes_eq_ofNat]
  exact exec_wordUnpack_of_match h s

theorem exec_wordPack (w : Word) (s : State) :
    exec (.wordPack w) s =
      .next (State.afterOk { s with crc := crc8 (w.extractLsb' 8 8) (w.extractLsb' 0 8) }
        (layoutFrame (w.extractLsb' 8 8) (w.extractLsb' 0 8) (crc8 (w.extractLsb' 8 8) (w.extractLsb' 0 8)))) := rfl

/-- Settles O14: the word and the checksum, as a number. -/
theorem wordPackResult : Obligations.WordPackResult := by
  refine ⟨fun a => ?_, fun w s => ⟨crc8 (w.extractLsb' 8 8) (w.extractLsb' 0 8), ?_, ?_⟩⟩
  · rw [← argWord_eq_extract a 0 (by omega)]
    rfl
  · rw [highByte_eq_ofNat, lowByte_eq_ofNat]
  · rw [exec_wordPack, layoutFrame_eq, ← BitVec.ofNat_toNat, toNat_append_eq]
    rfl

/-- Settles O16: the checks of the three groups in their order; a later one is reached where those before it match. -/
theorem wordThreeUnpackResult : Obligations.WordThreeUnpackResult := by
  refine ⟨fun _ => rfl, fun g0 g1 g2 s => ?_⟩
  rw [exec, execWord3Unpack, ← layoutRw3_bytes_eq_ofNat]
  split_ifs with h0 h1 h2
  · rw [State.verifyGroup_of_mismatch _ _ _ _ h0]
  · rw [State.verifyGroup_of_match _ _ _ _ (not_not.1 h0), State.verifyGroup_of_mismatch _ _ _ _ h1]
  · rw [State.verifyGroup_of_match _ _ _ _ (not_not.1 h0), State.verifyGroup_of_match _ _ _ _ (not_not.1 h1),
      State.verifyGroup_of_mismatch _ _ _ _ h2]
  · rw [State.verifyGroup_of_match _ _ _ _ (not_not.1 h0), State.verifyGroup_of_match _ _ _ _ (not_not.1 h1),
      State.verifyGroup_of_match _ _ _ _ (not_not.1 h2)]
    rfl

/-! ### Frames -/

/-- Settles O11: a damaged payload byte gives another checksum, and a damaged checksum is not the computed one. -/
theorem singleByteErrorDetected : Obligations.SingleByteErrorDetected := by
  intro b0 b1 b0' b1' c' s h
  refine exec_wordUnpack_of_mismatch ?_ s
  obtain ⟨hne, rfl, rfl⟩ | ⟨rfl, hne, rfl⟩ | ⟨rfl, rfl, hne⟩ := h
  · exact (crc8_bijective_high b1').injective.ne hne
  · exact (crc8_bijective_low b0').injective.ne hne
  · exact hne.symm

theorem ne_xor_allOnes (c : Byte) : c ≠ c ^^^ 0xFF#8 := by
  intro h
  have hmask : 0xFF#8 = 0#8 := (BitVec.xor_right_inj c).1 (h.symm.trans BitVec.xor_zero.symm)
  exact absurd hmask (by decide)

/-- WORD.UNPACK of a frame with its own checksum, as it stands in `RES`, returns the word. -/
theorem exec_wordUnpack_layoutFrame (hi lo : Byte) (s : State) :
    exec (.wordUnpack ((layoutFrame hi lo (crc8 hi lo)).extractLsb' 16 8)
        ((layoutFrame hi lo (crc8 hi lo)).extractLsb' 8 8) ((layoutFrame hi lo (crc8 hi lo)).extractLsb' 0 8)) s =
      .next (State.afterOk { s with crc := crc8 hi lo } (layoutRw (hi ++ lo))) := by
  obtain ⟨hhi, hlo, hc⟩ := extract_layoutFrame hi lo (crc8 hi lo)
  rw [hhi, hlo, hc]
  exact exec_wordUnpack_of_match rfl s

/-- Settles O17: the checksum equals itself and not its complement, and WORD.PACK leaves a frame with its own
checksum. -/
theorem verifyAcceptsComputedChecksum : Obligations.VerifyAcceptsComputedChecksum :=
  ⟨fun _ _ s => ⟨_, _, exec_crc8Verify_of_match rfl s, rfl,
    exec_crc8Verify_of_mismatch (ne_xor_allOnes _) s, rfl, rfl, rfl⟩,
    fun w s => ⟨_, _, exec_wordPack w s, exec_wordUnpack_layoutFrame _ _ _, rfl,
      congrArg layoutRw (highByte_append_lowByte w)⟩⟩

/-! ### A verified serial number -/

/-- WORD3.UNPACK that ends with OK leaves the three words in `RES`. -/
theorem res_of_exec_word3Unpack {g0 g1 g2 : ByteGroup} {s t : State} (h : exec (.word3Unpack g0 g1 g2) s = .next t)
    (hok : t.st = 0x00#8) : t.res = layoutRw3 (g0.b0 ++ g0.b1) (g1.b0 ++ g1.b1) (g2.b0 ++ g2.b1) := by
  obtain rfl := Host.Outcome.next.inj ((exec_eq _ s).symm.trans h)
  rw [State.answered_st] at hok
  rw [State.answered_res, layoutRw3_eq]
  obtain hresp | ⟨p, -, -, hresp, -⟩ := groupsResponse_cases _ [(0#2, g0), (1#2, g1), (2#2, g2)]
  · exact congrArg Response.res hresp
  · have hst : (0x01#8 : Byte) = 0x00#8 := (congrArg Response.st hresp).symm.trans hok
    exact absurd hst (by decide)

/-- `RES` is its three words in order. -/
theorem extract_words_append (v : Result) :
    v.extractLsb' 32 16 ++ v.extractLsb' 16 16 ++ v.extractLsb' 0 16 = v := by
  apply BitVec.eq_of_toNat_eq
  simp only [toNat_append_eq, BitVec.extractLsb'_toNat, Nat.shiftRight_eq_div_pow]
  have := v.isLt
  omega

theorem exec_decSerial (w0 w1 w2 : Word) (s : State) :
    exec (.decSerial w0 w1 w2) s = .next (s.afterOk (w0 ++ w1 ++ w2)) := rfl

/-- Settles O44: both forms of the words are `RES`. -/
theorem serialOfUnpackedWords : Obligations.SerialOfUnpackedWords := by
  intro g0 g1 g2 s t h hok
  rw [exec_decSerial, extract_words_append, exec_decSerial, res_of_exec_word3Unpack h hok]
  exact ⟨rfl, rfl⟩

/-! ### Worked examples -/

set_option maxRecDepth 8192 in
/-- The source's checksum vectors S1 and S2, and the first with its bytes exchanged (R62, R32). -/
theorem crc8_source_vectors : crc8 0xBE 0xEF = 0x92 ∧ crc8 0xFF 0xFF = 0xAC ∧ crc8 0xEF 0xBE = 0xCE := by
  decide

/-- What CRC8.COMPUTE delivers is the checksum as a number. -/
theorem exec_crc8Compute_of_eq {b0 b1 c : Byte} (h : crc8 b0 b1 = c) (s : State) :
    ∃ t, exec (.crc8Compute b0 b1) s = .next t ∧ t.st = 0x00#8 ∧ t.res.toNat = c.toNat := by
  refine ⟨_, checksumComputeResult.2 b0 b1 s, rfl, ?_⟩
  rw [h]
  exact Nat.mod_eq_of_lt (c.isLt.trans (by decide))

/-- Settles O45: the checksums by their vectors, the other operations by running them. -/
theorem sourceWorkedExamples : Obligations.SourceWorkedExamples := by
  intro s
  obtain ⟨hs1, hs2, hswapped⟩ := crc8_source_vectors
  simp only [List.forall_mem_cons]
  exact ⟨exec_crc8Compute_of_eq hs1 s, exec_crc8Compute_of_eq hs2 s, exec_crc8Compute_of_eq hswapped s,
    ⟨_, rfl, rfl, rfl⟩, ⟨_, rfl, rfl, rfl⟩, ⟨_, rfl, rfl, rfl⟩, ⟨_, rfl, rfl, rfl⟩, ⟨_, rfl, rfl, rfl⟩,
    ⟨_, rfl, rfl, rfl⟩, ⟨_, rfl, rfl, rfl⟩, fun _ h => absurd h List.not_mem_nil⟩

end Machine
end Sys2Proof
end

section
/-! The binary32 results of the word-to-quantity operations: the pattern that `f32q` writes is that of exactly
`n / 2^s` (R80, R87). -/

namespace Sys2Proof
namespace Machine

section Encoding

-- A numerator below 2^24 with its highest set bit `k`, and the scales up to the 16 of `Qn.16` (R87).
variable {n : ℤ} {s k : ℕ} (hn : n.natAbs < 2 ^ 24) (hs : s ≤ 16) (hlow : 2 ^ k ≤ n.natAbs)
  (hhigh : n.natAbs < 2 ^ (k + 1))

include hn hlow in
theorem highestBit_le : k ≤ 23 :=
  Nat.le_of_lt_succ ((Nat.pow_lt_pow_iff_right Nat.one_lt_two).1 (hlow.trans_lt hn))

include hn hlow hhigh

/-- Shifted until its highest bit is bit 23, the numerator is the significand with its hidden one. -/
theorem normalized_bounds : 2 ^ 23 ≤ n.natAbs * 2 ^ (23 - k) ∧ n.natAbs * 2 ^ (23 - k) < 2 ^ 24 := by
  have hk := highestBit_le hn hlow
  have hmul {a b : ℕ} (h : a + (23 - k) = b) : 2 ^ a * 2 ^ (23 - k) = 2 ^ b := by rw [← Nat.pow_add, h]
  rw [← hmul (show k + (23 - k) = 23 by omega), ← hmul (show k + 1 + (23 - k) = 24 by omega)]
  exact ⟨Nat.mul_le_mul_right _ hlow, Nat.mul_lt_mul_of_pos_right hhigh (Nat.two_pow_pos _)⟩

include hs

theorem normalized_lt_overflow : n.natAbs * 2 ^ (23 - k) * 2 ^ (126 + k - s) < 2 ^ 128 * 2 ^ 149 := by
  have hk := highestBit_le hn hlow
  calc n.natAbs * 2 ^ (23 - k) * 2 ^ (126 + k - s)
      < 2 ^ 24 * 2 ^ 149 := Nat.mul_lt_mul_of_lt_of_le (normalized_bounds hn hlow hhigh).2
        (Nat.pow_le_pow_right two_pos (by omega)) (Nat.two_pow_pos _)
    _ ≤ 2 ^ 128 * 2 ^ 149 := Nat.mul_le_mul_right _ (Nat.pow_le_pow_right two_pos (by omega))

/-- The three fields side by side are the pattern of the normalized significand: its hidden one raises the exponent
field from `126 + k - s` to `127 + k - s`. -/
theorem f32q_eq_patternOf :
    f32q n s = patternOf (decide (n < 0)) (n.natAbs * 2 ^ (23 - k)) (126 + k - s) := by
  obtain ⟨hbit, hcarry⟩ := normalized_bounds hn hlow hhigh
  have hk := highestBit_le hn hlow
  have hzero : n.natAbs ≠ 0 := (Nat.two_pow_pos k |>.trans_le hlow).ne'
  have hlog : n.natAbs.log2 = k := (Nat.log2_eq_iff hzero).2 ⟨hlow, hhigh⟩
  apply BitVec.eq_of_toNat_eq
  rw [patternOf_toNat hcarry.le (.inr hbit) (normalized_lt_overflow hn hs hlow hhigh), f32q,
    if_neg (Int.natAbs_ne_zero.1 hzero)]
  simp only [hlog, toNat_append_eq, BitVec.toNat_ofBool, BitVec.toNat_ofNat]
  omega

theorem f32q_toNat :
    (f32q n s).toNat =
      (if n < 0 then 2 ^ 31 else 0) + (127 + k - s) * 2 ^ 23 + (n.natAbs * 2 ^ (23 - k) - 2 ^ 23) := by
  obtain ⟨hbit, hcarry⟩ := normalized_bounds hn hlow hhigh
  have hsign : (decide (n < 0)).toNat * 2 ^ 31 = if n < 0 then 2 ^ 31 else 0 := by split <;> simp [*]
  rw [f32q_eq_patternOf hn hs hlow hhigh,
    patternOf_toNat hcarry.le (.inr hbit) (normalized_lt_overflow hn hs hlow hhigh), hsign]
  omega

theorem exponentOf_f32q : exponentOf (f32q n s) = 127 + k - s := by
  obtain ⟨hbit, hcarry⟩ := normalized_bounds hn hlow hhigh
  rw [f32q_eq_patternOf hn hs hlow hhigh,
    exponentOf_patternOf hcarry.le (.inr hbit) (normalized_lt_overflow hn hs hlow hhigh)]
  omega

theorem scaled_f32q : signed (f32q n s) (scaledMagnitude (f32q n s)) = n * 2 ^ (149 - s) := by
  obtain ⟨hbit, hcarry⟩ := normalized_bounds hn hlow hhigh
  have hk := highestBit_le hn hlow
  have hlt := normalized_lt_overflow hn hs hlow hhigh
  rw [f32q_eq_patternOf hn hs hlow hhigh, signed_patternOf hcarry.le (.inr hbit) hlt,
    scaledMagnitude_patternOf hcarry.le (.inr hbit) hlt, Nat.mul_assoc, ← Nat.pow_add,
    show 23 - k + (126 + k - s) = 149 - s by omega]
  push_cast
  split_ifs with hneg
  · rw [abs_of_neg (by simpa using hneg), neg_mul, neg_neg]
  · rw [abs_of_nonneg (by simpa using hneg)]

end Encoding

theorem f32q_zero (s : ℕ) : f32q 0 s = 0#32 := rfl

theorem realOf_zero : realOf 0#32 = 0 := by
  simp [realOf, exponentOf, fractionOf]

theorem realOf_f32q {n : ℤ} {s : ℕ} (hn : n.natAbs < 2 ^ 24) (hs : s ≤ 16) : realOf (f32q n s) = (n : ℚ) / 2 ^ s := by
  by_cases h0 : n = 0
  · rw [h0, f32q_zero, realOf_zero, Int.cast_zero, zero_div]
  · have hscaled := scaled_f32q hn hs (Nat.log2_self_le (Int.natAbs_ne_zero.2 h0)) Nat.lt_log2_self
    rw [realOf_eq_scaled, hscaled, ← pow_mul_pow_sub (2 : ℚ) (show s ≤ 149 by omega)]
    push_cast
    exact mul_div_mul_right _ _ (by positivity)

/-- The exponent field of a result lies between 111 and 150 (R87). -/
theorem isNormalOrZero_f32q {n : ℤ} {s : ℕ} (hn : n.natAbs < 2 ^ 24) (hs : s ≤ 16) : IsNormalOrZero (f32q n s) := by
  by_cases h0 : n = 0
  · exact .inr (h0 ▸ f32q_zero s)
  · have hlow := Nat.log2_self_le (Int.natAbs_ne_zero.2 h0)
    have hk := highestBit_le hn hlow
    rw [IsNormalOrZero, exponentOf_f32q hn hs hlow Nat.lt_log2_self]
    exact .inl (by omega)

/-- Settles O25: the fields are those of the normalized numerator. -/
theorem floatEncodingIsExact : Obligations.FloatEncodingIsExact := by
  intro n s hn hscale
  have hs : s ≤ 16 := by omega
  exact ⟨realOf_f32q hn hs, isNormalOrZero_f32q hn hs, fun h0 => h0 ▸ f32q_zero s,
    fun _ hlow hhigh => f32q_toNat hn hs hlow hhigh⟩

end Machine
end Sys2Proof
end

section
/-! The word-to-quantity operations: their requests, their results, and the order of the quantities they deliver
(R81 to R88). -/

namespace Sys2Proof
namespace Machine

/-- The operand of format `W` is bits 71:56 of `ARG` (R42). -/
theorem decode_word {op : Byte} {f : Word → Instr} (h : ∀ a, decode { op := op, arg := a } = .ok (f (argWord a 0)))
    (a : Arg) : decode { op := op, arg := a } = .ok (f (a.extractLsb' 56 16)) := by
  rw [h, argWord_eq_extract a 0 (by omega)]

/-! ### Integer results -/

theorem layoutRw_eq_ofNat (w : Word) : layoutRw w = BitVec.ofNat 48 w.toNat := (BitVec.ofNat_toNat 48 w).symm

/-- Settles O19. -/
theorem carbonDioxideFromWordResult : Obligations.CarbonDioxideFromWordResult :=
  ⟨decode_word (f := .cvtCo2Fromw) fun _ => rfl, fun w s => by rw [← layoutRw_eq_ofNat]; rfl⟩

/-- The correction read as two's complement (R86). -/
theorem toInt_sub_frcBias (w : Word) : (w - frcBias).toInt = (w.toNat : ℤ) - 32768 := by
  have hsub : (w - frcBias).toNat = (2 ^ 16 - 2 ^ 15 + w.toNat) % 2 ^ 16 := BitVec.toNat_sub ..
  rw [BitVec.toInt_eq_toNat_cond, hsub]
  have := w.isLt
  split <;> omega

theorem exec_cvtFrcFromw_of_ne {w : Word} (h : w ≠ 0xFFFF#16) (s : State) :
    exec (.cvtFrcFromw w) s = .next (s.afterOk (BitVec.ofNat 48 (w - frcBias).toNat)) := by
  rw [BitVec.ofNat_toNat]
  exact congrArg Host.Outcome.next (if_neg h)

/-- Settles O24: the one word whose correction would be 32767 is the failure word. -/
theorem recalibrationFromWordResult : Obligations.RecalibrationFromWordResult := by
  refine ⟨decode_word (f := .cvtFrcFromw) fun _ => rfl, fun _ => rfl, fun w s hne =>
    ⟨w - frcBias, exec_cvtFrcFromw_of_ne hne s, toInt_sub_frcBias w, sub_frcBias_eq_xor w, fun htop => hne ?_⟩⟩
  rw [toInt_sub_frcBias] at htop
  exact BitVec.eq_of_toNat_eq (show w.toNat = 65535 by omega)

/-! ### Binary32 results -/

/-- Operation `i` completes with OK from `s`, and `RES[31:0]` is a normal or zero pattern of exactly `q`. -/
def Delivers (i : Instr) (s : State) (q : ℚ) : Prop :=
  ∃ x : F32, exec i s = .next (s.afterOk (BitVec.ofNat 48 x.toNat)) ∧ IsNormalOrZero x ∧ realOf x = q

theorem delivers_of_f32q {i : Instr} {s : State} {n : ℤ} {sc : ℕ} {q : ℚ}
    (hexec : exec i s = .next (s.afterOk (layoutRf32 (f32q n sc)))) (hn : n.natAbs < 2 ^ 24) (hsc : sc ≤ 16)
    (hq : (n : ℚ) / 2 ^ sc = q) : Delivers i s q :=
  ⟨f32q n sc, by rw [hexec, BitVec.ofNat_toNat]; rfl, isNormalOrZero_f32q hn hsc, (realOf_f32q hn hsc).trans hq⟩

theorem quantityAfter_of_delivers {i : Instr} {s : State} {q : ℚ} (h : Delivers i s q) : quantityAfter i s = q := by
  obtain ⟨x, hexec, -, hreal⟩ := h
  have hres : (BitVec.ofNat 48 x.toNat).setWidth 32 = x := by
    rw [BitVec.ofNat_toNat, BitVec.setWidth_setWidth_of_le _ (by omega), BitVec.setWidth_eq]
  rw [quantityAfter, hexec, ← hreal]
  exact congrArg realOf hres

theorem delivers_temperature (w : Word) (s : State) :
    Delivers (.cvtTempFromw w) s (-45 + 175 * (w.toNat : ℚ) / 65536) := by
  have := w.isLt
  refine delivers_of_f32q (n := 175 * (w.toNat : ℤ) - 2949120) (sc := 16) rfl (by omega) le_rfl ?_
  push_cast
  ring

theorem delivers_humidity (w : Word) (s : State) : Delivers (.cvtRhFromw w) s (100 * (w.toNat : ℚ) / 65536) := by
  have := w.isLt
  refine delivers_of_f32q (n := 100 * (w.toNat : ℤ)) (sc := 16) rfl (by omega) le_rfl ?_
  push_cast
  ring

theorem delivers_offset (w : Word) (s : State) : Delivers (.cvtToffFromw w) s (175 * (w.toNat : ℚ) / 65536) := by
  have := w.isLt
  refine delivers_of_f32q (n := 175 * (w.toNat : ℤ)) (sc := 16) rfl (by omega) le_rfl ?_
  push_cast
  ring

theorem delivers_altitude (w : Word) (s : State) : Delivers (.cvtAltFromw w) s w.toNat := by
  have := w.isLt
  refine delivers_of_f32q (n := (w.toNat : ℤ)) (sc := 0) rfl (by omega) (Nat.zero_le _) ?_
  push_cast
  ring

/-- Settles O20. -/
theorem temperatureFromWordResult : Obligations.TemperatureFromWordResult :=
  ⟨decode_word (f := .cvtTempFromw) fun _ => rfl, delivers_temperature⟩

/-- Settles O21. -/
theorem humidityFromWordResult : Obligations.HumidityFromWordResult :=
  ⟨decode_word (f := .cvtRhFromw) fun _ => rfl, delivers_humidity⟩

/-- Settles O22. -/
theorem offsetFromWordResult : Obligations.OffsetFromWordResult :=
  ⟨decode_word (f := .cvtToffFromw) fun _ => rfl, delivers_offset⟩

/-- Settles O23. -/
theorem altitudeFromWordResult : Obligations.AltitudeFromWordResult :=
  ⟨decode_word (f := .cvtAltFromw) fun _ => rfl, delivers_altitude⟩

/-- Settles O26: each quantity is an increasing linear function of the word. -/
theorem fromWordStrictlyIncreasing : Obligations.FromWordStrictlyIncreasing := by
  intro s
  have htemp w := quantityAfter_of_delivers (delivers_temperature w s)
  have hrh w := quantityAfter_of_delivers (delivers_humidity w s)
  have htoff w := quantityAfter_of_delivers (delivers_offset w s)
  have halt w := quantityAfter_of_delivers (delivers_altitude w s)
  have hfirst : (0x0000 : Word).toNat = 0 := rfl
  have hlast : (0xFFFF : Word).toNat = 65535 := rfl
  simp only [htemp, hrh, htoff, halt, hfirst, hlast]
  refine ⟨fun w w' h => ?_, by norm_num, by norm_num, by norm_num, fun _ => trivial, fun w => by ring⟩
  have hlt : (w.toNat : ℚ) < w'.toNat := Nat.cast_lt.2 h
  refine ⟨?_, ?_, ?_, hlt⟩ <;> linarith

end Machine
end Sys2Proof
end

section
/-! The operands of the quantity-to-word operations: how each pattern is read, and which are in range (R100, R106). -/

namespace Sys2Proof
namespace Machine

/-! ### Reading -/

theorem realOf_negative_zero : realOf 0x80000000#32 = 0 := by
  simp [realOf, exponentOf, fractionOf]

/-- Settles O27: the exponent field 255 and the fraction tell what a pattern is, and a finite one is a count of
2^-149. -/
theorem floatOperandReading : Obligations.FloatOperandReading := by
  refine ⟨fun x ⟨hexp, hfrac⟩ => ?_, fun x ⟨hexp, hfrac⟩ => ?_,
    fun x hfin => ⟨_, readF32_of_finite hfin, realOf_eq_scaled x⟩, realOf_negative_zero,
    fun _ => ⟨⟨_, rfl⟩, ⟨_, rfl⟩, ⟨_, rfl⟩⟩⟩
  · rw [readF32_of_exponent_ones hexp, if_neg hfrac]
  · rw [readF32_of_exponent_ones hexp, if_pos hfrac, getLsbD_31_iff]

/-! ### In range -/

/-- A range whose operands have a word as their integer, and no others do. -/
theorem inRange_iff_exists_word {P : Prop} {r : Option ℤ} {w : ℤ} (hin : P → r = some w ∧ 0 ≤ w ∧ w ≤ 65535)
    (hout : ¬ P → ∀ {n}, r = some n → n < 0 ∨ 65535 < n) : P ↔ ∃ n, r = some n ∧ 0 ≤ n ∧ n ≤ 65535 := by
  refine ⟨fun h => ⟨w, hin h⟩, fun ⟨n, hn, h0, h1⟩ => ?_⟩
  by_contra h
  have := hout h hn
  omega

/-- Settles O29: both ranges are those whose integers are words. -/
theorem inRangeIffIntegerFits : Obligations.InRangeIffIntegerFits := fun _ =>
  ⟨inRange_iff_exists_word truncOperand_of_inRange truncOperand_of_not_inRange,
    inRange_iff_exists_word offsetOperand_of_inRange offsetOperand_of_not_inRange⟩

/-! ### The patterns in range

The 31 bits below the sign, read as a number, order the finite patterns by magnitude. -/

/-- The magnitude of the pattern with the bits `m` below its sign, in units of 2^-149; also beyond the finite ones. -/
def magnitudeOfBits (m : ℕ) : ℕ :=
  if m / 2 ^ 23 = 0 then m % 2 ^ 23 else (2 ^ 23 + m % 2 ^ 23) * 2 ^ (m / 2 ^ 23 - 1)

theorem scaledMagnitude_eq_magnitudeOfBits (x : F32) : scaledMagnitude x = magnitudeOfBits (x.toNat % 2 ^ 31) := by
  have hexp : x.toNat % 2 ^ 31 / 2 ^ 23 = exponentOf x := by
    rw [exponentOf]
    omega
  have hfrac : x.toNat % 2 ^ 31 % 2 ^ 23 = fractionOf x := by
    rw [fractionOf]
    omega
  rw [scaledMagnitude_eq, magnitudeOfBits, hexp, hfrac]

/-- The next pattern has the next fraction, or after the last fraction the next exponent. -/
theorem magnitudeOfBits_lt_succ (m : ℕ) : magnitudeOfBits m < magnitudeOfBits (m + 1) := by
  unfold magnitudeOfBits
  obtain ⟨hexp, hfrac⟩ | ⟨hexp, hfrac, hlast⟩ :
      ((m + 1) / 2 ^ 23 = m / 2 ^ 23 ∧ (m + 1) % 2 ^ 23 = m % 2 ^ 23 + 1) ∨
      ((m + 1) / 2 ^ 23 = m / 2 ^ 23 + 1 ∧ (m + 1) % 2 ^ 23 = 0 ∧ m % 2 ^ 23 = 2 ^ 23 - 1) := by omega
  · rw [hexp, hfrac]
    split_ifs
    · omega
    · exact Nat.mul_lt_mul_of_pos_right (by omega) (Nat.two_pow_pos _)
  · rw [hexp, hfrac, hlast, if_neg (Nat.succ_ne_zero _), Nat.add_sub_cancel]
    split_ifs with h0
    · rw [h0]
      decide
    · obtain ⟨e, he⟩ := Nat.exists_eq_succ_of_ne_zero h0
      rw [he, Nat.succ_sub_one, Nat.pow_succ]
      have := Nat.two_pow_pos e
      omega

theorem magnitudeOfBits_strictMono : StrictMono magnitudeOfBits := strictMono_nat_of_lt_succ magnitudeOfBits_lt_succ

/-- The magnitudes below a bound are those up to the last pattern below it. -/
theorem magnitudeOfBits_lt_iff {p b : ℕ} (hbelow : magnitudeOfBits p < b) (habove : b ≤ magnitudeOfBits (p + 1))
    (m : ℕ) : magnitudeOfBits m < b ↔ m ≤ p := by
  refine ⟨fun h => ?_, fun h => (magnitudeOfBits_strictMono.monotone h).trans_lt hbelow⟩
  exact Nat.le_of_lt_succ (magnitudeOfBits_strictMono.lt_iff_lt.1 (h.trans_le habove))

/-- The finite operands between `-a` and `b` are two runs of patterns from the two zeros up, where `q` and `p` are the
last ones with a magnitude below `a` and below `b`. -/
theorem between_iff_pattern {a b p q : ℕ} (ha : magnitudeOfBits q < a ∧ a ≤ magnitudeOfBits (q + 1))
    (hb : magnitudeOfBits p < b ∧ b ≤ magnitudeOfBits (p + 1)) (hq : q < 0x7F800000) (hp : p < 0x7F800000)
    (x : F32) :
    (IsFinite x ∧ -(a : ℤ) < signed x (scaledMagnitude x) ∧ signed x (scaledMagnitude x) < b) ↔
      x.toNat ≤ p ∨ (0x80000000 ≤ x.toNat ∧ x.toNat ≤ 0x80000000 + q) := by
  have hx := x.isLt
  have hbelow := magnitudeOfBits_lt_iff ha.1 ha.2 (x.toNat % 2 ^ 31)
  have habove := magnitudeOfBits_lt_iff hb.1 hb.2 (x.toNat % 2 ^ 31)
  rw [signed_eq, IsFinite, exponentOf, scaledMagnitude_eq_magnitudeOfBits]
  split_ifs with hsign
  · omega
  · omega

/-- Settles O30: the bounds of the ranges lie between the magnitudes of neighbouring patterns. -/
theorem inRangePatterns : Obligations.InRangePatterns := by
  intro x
  have htrunc := between_iff_pattern (a := 2 ^ 149) (b := 65536 * 2 ^ 149) (q := 0x3F7FFFFF) (p := 0x477FFFFF)
    (by decide) (by decide) (by decide) (by decide) x
  have hoffset := between_iff_pattern (a := 175 * 2 ^ 132) (b := 175 * 131071 * 2 ^ 132) (q := 0x3AAEFFFF)
    (p := 0x432EFFA8) (by decide) (by decide) (by decide) (by decide) x
  rw [truncInRange_iff, offsetInRange_iff]
  exact ⟨htrunc, hoffset⟩

end Machine
end Sys2Proof
end

section
/-! The quantity-to-word operations: their requests and their results (R101 to R105). -/

namespace Sys2Proof
namespace Machine

/-- The operand of format `F` is bits 71:40 of `ARG` (R42). -/
theorem decode_float {op : Byte} {f : F32 → Instr} (h : ∀ a, decode { op := op, arg := a } = .ok (f (argFloat a)))
    (a : Arg) : decode { op := op, arg := a } = .ok (f (a.extractLsb' 40 32)) := by
  rw [h, argFloat_eq_extract]

/-- Settles O32. -/
theorem carbonDioxideToWordResult : Obligations.CarbonDioxideToWordResult :=
  ⟨decode_word (f := .cvtCo2Tow) fun _ => rfl, fun p s => by rw [← layoutRw_eq_ofNat]; rfl⟩

/-! ### One rule for the three operations with a range -/

/-- Operation `i` completes with OK from every state and with the word of the integer `z` where `P` holds, which is
then a word, else with the word `oor`. -/
structure ConvertsInRange (i : Instr) (P : Prop) [Decidable P] (z : ℤ) (oor : Word) : Prop where
  bounds : P → 0 ≤ z ∧ z ≤ 65535
  exec_eq : ∀ s, exec i s = .next (s.afterOk (layoutRw (if P then BitVec.ofInt 16 z else oor)))

theorem cvtToffTow_convertsInRange (x : F32) :
    ConvertsInRange (.cvtToffTow x) (OffsetInRange x) (offsetWordExact x) (Config.oorWord .toff x) := by
  refine ⟨fun h => (offsetOperand_of_inRange h).2, fun s => ?_⟩
  rw [← wordInRange_offsetOperand]
  rfl

theorem cvtAltTow_convertsInRange (x : F32) :
    ConvertsInRange (.cvtAltTow x) (TruncInRange x) (truncOf (realOf x)) (Config.oorWord .alt x) := by
  refine ⟨fun h => (truncOperand_of_inRange h).2, fun s => ?_⟩
  rw [← wordInRange_truncOperand]
  rfl

theorem cvtPresTow_convertsInRange (x : F32) :
    ConvertsInRange (.cvtPresTow x) (TruncInRange x) (truncOf (realOf x)) (Config.oorWord .pres x) := by
  refine ⟨fun h => (truncOperand_of_inRange h).2, fun s => ?_⟩
  rw [← wordInRange_truncOperand]
  rfl

theorem toNat_ofInt_word {z : ℤ} (h : 0 ≤ z ∧ z ≤ 65535) : ((BitVec.ofInt 16 z).toNat : ℤ) = z := by
  rw [BitVec.toNat_ofInt]
  omega

section Converts

variable {i : Instr} {P : Prop} [Decidable P] {z : ℤ} {oor : Word} (hi : ConvertsInRange i P z oor)
include hi

theorem ConvertsInRange.exec_of_inRange (h : P) (s : State) :
    ∃ w : Word, (w.toNat : ℤ) = z ∧ exec i s = .next (s.afterOk (BitVec.ofNat 48 w.toNat)) := by
  refine ⟨BitVec.ofInt 16 z, toNat_ofInt_word (hi.bounds h), ?_⟩
  rw [hi.exec_eq, if_pos h, layoutRw_eq_ofNat]

theorem ConvertsInRange.exec_of_not_inRange (h : ¬ P) (s : State) :
    exec i s = .next (s.afterOk (BitVec.ofNat 48 oor.toNat)) := by
  rw [hi.exec_eq, if_neg h, layoutRw_eq_ofNat]

/-- Everything the operation can do. -/
theorem ConvertsInRange.results (s : State) :
    (P → ∃ w : Word, (w.toNat : ℤ) = z ∧ exec i s = .next (s.afterOk (BitVec.ofNat 48 w.toNat))) ∧
    (¬ P → exec i s = .next (s.afterOk (BitVec.ofNat 48 oor.toNat))) :=
  ⟨(hi.exec_of_inRange · s), (hi.exec_of_not_inRange · s)⟩

end Converts

/-! ### The results -/

/-- Settles O33: the integer is that of exact arithmetic although the quotient is rounded
(`offsetOperand_of_inRange`). -/
theorem offsetToWordResult : Obligations.OffsetToWordResult :=
  ⟨decode_float (f := .cvtToffTow) fun _ => rfl, fun x => (cvtToffTow_convertsInRange x).results⟩

/-- Settles O34. -/
theorem altitudeToWordResult : Obligations.AltitudeToWordResult :=
  ⟨decode_float (f := .cvtAltTow) fun _ => rfl, fun x => (cvtAltTow_convertsInRange x).results⟩

/-- Settles O35. -/
theorem pressureToWordResult : Obligations.PressureToWordResult :=
  ⟨decode_float (f := .cvtPresTow) fun _ => rfl, fun x => (cvtPresTow_convertsInRange x).results⟩

/-- A NaN and an infinity are not finite, and a range holds finite operands only. -/
theorem not_inRange_of_cases {x : F32} {P : Prop} (hfin : P → IsFinite x)
    (h : IsNaN x ∨ IsInfinity x ∨ (IsFinite x ∧ ¬ P)) : ¬ P := by
  obtain ⟨hexp, -⟩ | ⟨hexp, -⟩ | ⟨-, hout⟩ := h
  · exact fun hP => hfin hP hexp
  · exact fun hP => hfin hP hexp
  · exact hout

/-- Settles O31: each of the three cases is out of range. -/
theorem outOfRangeGivesParameter : Obligations.OutOfRangeGivesParameter := by
  intro x s
  refine ⟨fun h => ?_, fun h => ?_⟩
  · exact (cvtToffTow_convertsInRange x).exec_of_not_inRange (not_inRange_of_cases And.left h) s
  · have hout : ¬ TruncInRange x := not_inRange_of_cases And.left h
    exact ⟨(cvtAltTow_convertsInRange x).exec_of_not_inRange hout s,
      (cvtPresTow_convertsInRange x).exec_of_not_inRange hout s⟩

end Machine
end Sys2Proof
end

section
/-! Round trips between words and quantities, and the order of the words (R107, R108). -/

namespace Sys2Proof
namespace Machine

/-! ### A result taken as the next operand -/

theorem setWidth_ofNat_toNat {n : ℕ} (x : BitVec n) (h : n ≤ 48) : (BitVec.ofNat 48 x.toNat).setWidth n = x := by
  rw [BitVec.ofNat_toNat, BitVec.setWidth_setWidth_of_le _ h, BitVec.setWidth_eq]

/-- A response is written over the one before it. -/
theorem State.afterOk_afterOk (s : State) (v v' : Result) : (s.afterOk v).afterOk v' = s.afterOk v' := rfl

theorem State.afterOk_res (s : State) (v : Result) : (s.afterOk v).res = v := rfl

/-! ### From a word and back -/

theorem isFinite_of_isNormalOrZero {x : F32} (h : IsNormalOrZero x) : IsFinite x := by
  obtain ⟨hfin, -⟩ | rfl := h
  · exact hfin
  · decide

theorem offsetWordExact_of_word {x : F32} {w : Word} (hx : IsFinite x)
    (hreal : realOf x = 175 * (w.toNat : ℚ) / 65536) :
    OffsetInRange x ∧ offsetWordExact x = w.toNat := by
  have hnonneg : (0 : ℚ) ≤ w.toNat := Nat.cast_nonneg _
  have hle : (w.toNat : ℚ) ≤ 65535 := by exact_mod_cast Nat.le_of_lt_succ w.isLt
  refine ⟨⟨hx, ?_, ?_⟩, ?_⟩
  · rw [hreal]
    linarith
  · rw [hreal]
    linarith
  · rw [offsetWordExact, Int.floor_eq_iff, hreal]
    push_cast
    constructor <;> linarith

theorem truncOf_of_word {x : F32} {w : Word} (hx : IsFinite x) (hreal : realOf x = w.toNat) :
    TruncInRange x ∧ truncOf (realOf x) = w.toNat := by
  have hnonneg : (0 : ℚ) ≤ w.toNat := Nat.cast_nonneg _
  have hlt : (w.toNat : ℚ) < 65536 := by exact_mod_cast w.isLt
  refine ⟨⟨hx, by linarith, by linarith⟩, ?_⟩
  rw [hreal, truncOf, if_pos hnonneg, Int.floor_natCast]

/-- A word delivered as a quantity that converts to the word again. -/
theorem roundTrip_of_delivers {i : Instr} {j : F32 → Instr} {P : F32 → Prop} [DecidablePred P] {z : F32 → ℤ}
    {oor : F32 → Word} {s : State} {q : ℚ} {w : Word} (hi : Delivers i s q)
    (hj : ∀ x, ConvertsInRange (j x) (P x) (z x) (oor x))
    (hback : ∀ x, IsFinite x → realOf x = q → P x ∧ z x = w.toNat) :
    ∃ t u, exec i s = .next t ∧ exec (j (t.res.setWidth 32)) t = .next u ∧ u = s.afterOk (w.setWidth 48) := by
  obtain ⟨x, hexec, hx, hreal⟩ := hi
  obtain ⟨hP, hz⟩ := hback x (isFinite_of_isNormalOrZero hx) hreal
  obtain ⟨w', hw', hexec'⟩ := (hj x).exec_of_inRange hP (s.afterOk (BitVec.ofNat 48 x.toNat))
  obtain rfl : w' = w := BitVec.eq_of_toNat_eq (by omega)
  refine ⟨_, _, hexec, ?_, rfl⟩
  rw [State.afterOk_res, setWidth_ofNat_toNat x (by omega), hexec', State.afterOk_afterOk, BitVec.ofNat_toNat]

/-- Settles O36: the quantity of a word is in range and has the word for its integer. -/
theorem wordRoundTrips : Obligations.WordRoundTrips := by
  intro w s
  refine ⟨roundTrip_of_delivers (delivers_offset w s) cvtToffTow_convertsInRange fun _ => offsetWordExact_of_word,
    roundTrip_of_delivers (delivers_altitude w s) cvtAltTow_convertsInRange fun _ => truncOf_of_word,
    _, _, carbonDioxideFromWordResult.2 w s, carbonDioxideToWordResult.2 _ _, ?_⟩
  rw [State.afterOk_res, setWidth_ofNat_toNat w (by omega), State.afterOk_afterOk, BitVec.ofNat_toNat]

/-! ### From a quantity and back -/

/-- A quantity in range whose word is delivered as the quantity `q` of the word. -/
theorem roundTrip_of_converts {i : Instr} {j : Word → Instr} {P : Prop} [Decidable P] {z : ℤ} {oor : Word}
    {q : Word → ℚ} (hi : ConvertsInRange i P z oor) (hP : P) (hj : ∀ w s, Delivers (j w) s (q w)) (s : State) :
    ∃ (w : Word) (t u : State), (w.toNat : ℤ) = z ∧ exec i s = .next t ∧
      exec (j (t.res.setWidth 16)) t = .next u ∧ realOf (u.res.setWidth 32) = q w := by
  obtain ⟨w, hw, hexec⟩ := hi.exec_of_inRange hP s
  have hoperand : (s.afterOk (BitVec.ofNat 48 w.toNat)).res.setWidth 16 = w := setWidth_ofNat_toNat w (by omega)
  obtain ⟨x, hexec', -, hreal⟩ := hj w (s.afterOk (BitVec.ofNat 48 w.toNat))
  refine ⟨w, _, s.afterOk (BitVec.ofNat 48 x.toNat), hw, hexec, ?_, ?_⟩
  · rw [hoperand, hexec', State.afterOk_afterOk]
  · rw [State.afterOk_res, setWidth_ofNat_toNat x (by omega), hreal]

/-- Settles O37: the word of the quantity, as a quantity again; adding 1/2 before the floor gives the nearest
multiple. -/
theorem quantityRoundTrips : Obligations.QuantityRoundTrips := by
  intro x s
  refine ⟨fun h => ?_, fun h => ?_⟩
  · obtain ⟨w, t, u, hw, ht, hu, hq⟩ := roundTrip_of_converts (cvtToffTow_convertsInRange x) h delivers_offset s
    have hfloor : ⌊realOf x / (175 / 65536) + 1 / 2⌋ = (w.toNat : ℤ) := by
      rw [hw, offsetWordExact]
      congr 1
      ring
    refine ⟨t, u, ht, hu, ?_, ?_⟩
    · rw [hq, hfloor]
      push_cast
      ring
    · obtain ⟨hlow, hhigh⟩ := Int.floor_eq_iff.1 hfloor
      push_cast at hlow hhigh
      rw [hq, abs_le]
      constructor <;> linarith
  · obtain ⟨w, t, u, hw, ht, hu, hq⟩ := roundTrip_of_converts (cvtAltTow_convertsInRange x) h delivers_altitude s
    refine ⟨t, u, ht, hu, ?_⟩
    rw [hq, ← hw, Int.cast_natCast]

/-! ### Order -/

theorem offsetWordExact_le {x y : F32} (h : realOf x ≤ realOf y) : offsetWordExact x ≤ offsetWordExact y := by
  refine Int.floor_le_floor ?_
  linarith

theorem truncOf_monotone : Monotone truncOf := by
  intro q q' h
  unfold truncOf
  split_ifs with h0 h0' h0'
  · exact Int.floor_le_floor h
  · exact absurd (h0.trans h) h0'
  · exact (Int.ceil_nonpos.2 (not_le.1 h0).le).trans (Int.floor_nonneg.2 h0')
  · exact Int.ceil_le_ceil h

/-- The word in `RES` is ordered as the integer is. -/
theorem res_le_of_converts {i j : Instr} {P Q : Prop} [Decidable P] [Decidable Q] {z z' : ℤ} {oor oor' : Word}
    (hi : ConvertsInRange i P z oor) (hj : ConvertsInRange j Q z' oor') (hP : P) (hQ : Q) (hle : z ≤ z') (s : State) :
    ∃ t u, exec i s = .next t ∧ exec j s = .next u ∧ t.res.toNat ≤ u.res.toNat := by
  obtain ⟨w, hw, ht⟩ := hi.exec_of_inRange hP s
  obtain ⟨w', hw', hu⟩ := hj.exec_of_inRange hQ s
  refine ⟨_, _, ht, hu, ?_⟩
  rw [State.afterOk_res, State.afterOk_res, BitVec.toNat_ofNat, BitVec.toNat_ofNat]
  omega

/-- Operands in range with the same integer give the same next state. -/
theorem exec_eq_of_converts {i j : Instr} {P Q : Prop} [Decidable P] [Decidable Q] {z z' : ℤ} {oor oor' : Word}
    (hi : ConvertsInRange i P z oor) (hj : ConvertsInRange j Q z' oor') (hP : P) (hQ : Q) (heq : z = z')
    (s : State) : exec i s = exec j s := by
  rw [hi.exec_eq, hj.exec_eq, if_pos hP, if_pos hQ, heq]

/-- Settles O38: the integers are monotone functions of the real number, which is 0 for both zeros. -/
theorem toWordMonotone : Obligations.ToWordMonotone := by
  have hzero : realOf 0x00000000#32 = realOf 0x80000000#32 := realOf_zero.trans realOf_negative_zero.symm
  have hoffset : OffsetInRange 0x00000000#32 ∧ OffsetInRange 0x80000000#32 := by
    rw [(inRangePatterns _).2, (inRangePatterns _).2]
    decide
  have htrunc : TruncInRange 0x00000000#32 ∧ TruncInRange 0x80000000#32 := by
    rw [(inRangePatterns _).1, (inRangePatterns _).1]
    decide
  refine ⟨fun x y s hx hy h => ?_, fun x y s hx hy h => ⟨?_, ?_⟩, fun s => ⟨?_, ?_, ?_⟩⟩
  · exact res_le_of_converts (cvtToffTow_convertsInRange x) (cvtToffTow_convertsInRange y) hx hy
      (offsetWordExact_le h) s
  · exact res_le_of_converts (cvtAltTow_convertsInRange x) (cvtAltTow_convertsInRange y) hx hy (truncOf_monotone h) s
  · exact res_le_of_converts (cvtPresTow_convertsInRange x) (cvtPresTow_convertsInRange y) hx hy (truncOf_monotone h) s
  · exact exec_eq_of_converts (cvtToffTow_convertsInRange _) (cvtToffTow_convertsInRange _) hoffset.1 hoffset.2
      (by rw [offsetWordExact, offsetWordExact, hzero]) s
  · exact exec_eq_of_converts (cvtAltTow_convertsInRange _) (cvtAltTow_convertsInRange _) htrunc.1 htrunc.2
      (by rw [hzero]) s
  · exact exec_eq_of_converts (cvtPresTow_convertsInRange _) (cvtPresTow_convertsInRange _) htrunc.1 htrunc.2
      (by rw [hzero]) s

end Machine
end Sys2Proof
end

section
/-! The status and identity decoders: their requests and their results (R120 to R124). -/

namespace Sys2Proof
namespace Machine

/-! ### A flag in `RES` (R43) -/

theorem layoutRbool_eq_ite (e : Bool) : layoutRbool e = if e then 1#48 else 0#48 := by
  cases e <;> rfl

theorem layoutRbool_decide (p : Prop) [Decidable p] : layoutRbool (decide p) = if p then 1#48 else 0#48 := by
  simp only [layoutRbool_eq_ite, decide_eq_true_eq]

/-- The flag of a number's bit 0 is that bit as a number. -/
theorem layoutRbool_odd (n : ℕ) : layoutRbool (decide (n % 2 = 1)) = BitVec.ofNat 48 (n % 2) := by
  obtain h | h := Nat.mod_two_eq_zero_or_one n
  · rw [h]
    rfl
  · rw [h]
    rfl

/-- The word 0 or 1 in `RES` is its flag. -/
theorem layoutRw_flagWord (e : Bool) : layoutRw ((BitVec.ofBool e).setWidth 16) = layoutRbool e := by
  cases e <;> rfl

/-! ### The operations -/

theorem exec_decDrdy (w : Word) (s : State) :
    exec (.decDrdy w) s = .next (s.afterOk (layoutRbool (isReady w))) := rfl

theorem exec_decSelftest (w : Word) (s : State) :
    exec (.decSelftest w) s = .next (s.afterOk (layoutRbool (selfTestPassed w))) := rfl

theorem exec_decAsc (w : Word) (s : State) :
    exec (.decAsc w) s = .next (s.afterOk (layoutRbool (ascEnabled w))) := rfl

theorem exec_encAsc (e : Bool) (s : State) :
    exec (.encAsc e) s = .next (s.afterOk (layoutRw ((BitVec.ofBool e).setWidth 16))) := rfl

/-- Settles O39: the mask keeps the low 11 bits (`isReady_eq`). -/
theorem dataReadyResult : Obligations.DataReadyResult :=
  ⟨decode_word (f := .decDrdy) fun _ => rfl, fun w s => by rw [exec_decDrdy, isReady_eq, layoutRbool_decide]⟩

/-- Settles O40. -/
theorem selfTestResult : Obligations.SelfTestResult :=
  ⟨decode_word (f := .decSelftest) fun _ => rfl,
    fun w s => by rw [exec_decSelftest, selfTestPassed_eq, layoutRbool_decide]⟩

/-- Settles O41: the mask keeps bit 0 (`ascEnabled_eq`). -/
theorem selfCalibrationFlagResult : Obligations.SelfCalibrationFlagResult :=
  ⟨decode_word (f := .decAsc) fun _ => rfl, fun w s => by rw [exec_decAsc, ascEnabled_eq, layoutRbool_odd]⟩

theorem ascEnabled_flagWord (e : Bool) : ascEnabled ((BitVec.ofBool e).setWidth 16) = e := by
  cases e <;> decide

/-- A word in `RES` taken as the next operand. -/
theorem setWidth_layoutRw (w : Word) : (layoutRw w).setWidth 16 = w := by
  rw [layoutRw_eq_ofNat, setWidth_ofNat_toNat w (by omega)]

/-- Settles O42: the word that ENC.ASC leaves in `RES` is read back whole, and its bit 0 is the flag. -/
theorem selfCalibrationWordResult : Obligations.SelfCalibrationWordResult := by
  refine ⟨fun a => ?_, fun e s => ?_, fun e s => ⟨_, _, exec_encAsc e s, exec_decAsc _ _, ?_⟩⟩
  · rw [← argFlag_eq_bit]
    rfl
  · rw [exec_encAsc, layoutRw_flagWord, layoutRbool_eq_ite]
  · rw [State.afterOk_res, State.afterOk_res, setWidth_layoutRw, ascEnabled_flagWord, layoutRbool_eq_ite]

/-- Three words side by side as a number, the first the most significant. -/
theorem append_words_eq_ofNat (w0 w1 w2 : Word) :
    w0 ++ w1 ++ w2 = BitVec.ofNat 48 (w0.toNat * 2 ^ 32 + w1.toNat * 2 ^ 16 + w2.toNat) := by
  have hnat : (w0 ++ w1 ++ w2).toNat = w0.toNat * 2 ^ 32 + w1.toNat * 2 ^ 16 + w2.toNat := by
    simp only [toNat_append_eq]
    omega
  rw [← hnat, BitVec.ofNat_toNat, BitVec.setWidth_eq]

/-- Settles O43: the three operands of format `W3` in their order, as a number. -/
theorem serialNumberResult : Obligations.SerialNumberResult := by
  refine ⟨fun a => ?_, fun w0 w1 w2 s => ?_⟩
  · rw [← argWord_eq_extract a 0 (by omega), ← argWord_eq_extract a 2 (by omega),
      ← argWord_eq_extract a 4 (by omega)]
    rfl
  · rw [exec_decSerial, append_words_eq_ofNat]

end Machine
end Sys2Proof
end

section
/-! The block with no request presented (R151). -/

namespace Sys2Proof
namespace Machine

theorem State.nextInput_of_inputs_nil {s : State} (h : s.inputs = []) : s.nextInput = none := by
  rw [State.nextInput, h, List.head?_nil]

theorem serveNext_of_no_input {s : State} (h : s.nextInput = none) : serveNext s = .next s.idle := by
  rw [serveNext, h]

/-- Settles O48: no input is taken, and an idle block holds every register. -/
theorem idleHoldsRegisters : Obligations.IdleHoldsRegisters := by
  intro s hin
  calc step s
      _ = serveNext s := rfl
      _ = .next s.idle := serveNext_of_no_input (State.nextInput_of_inputs_nil hin)
      _ = .next s := by rw [State.idle_eq]

end Machine
end Sys2Proof
end

section
/-! Reset: the values it leaves, and the step that takes it (R160, R161). -/

namespace Sys2Proof
namespace Machine

/-- Settles O49, register by register. -/
theorem resetValues : Obligations.ResetValues := by
  unfold Obligations.ResetValues
  exact ⟨rfl, rfl, rfl, rfl, rfl, rfl⟩

/-! ### Taking reset -/

theorem State.nextInput_of_inputs_cons {s : State} {i : HostInput} {rest : List HostInput} (h : s.inputs = i :: rest) :
    s.nextInput = some i := by
  rw [State.nextInput, h, List.head?_cons]

theorem step_of_nextInput {s : State} {i : HostInput} (h : s.nextInput = some i) :
    step s = serveInput i s.dropInput := by
  rw [step, serveNext, h]

theorem step_of_reset {s : State} {rest : List HostInput} (h : s.inputs = .reset :: rest) :
    step s = .next s.dropInput.takeReset :=
  step_of_nextInput (State.nextInput_of_inputs_cons h)

@[simp] theorem State.dropInput_present (s : State) (i : HostInput) : (s.present i).dropInput = s := rfl

/-- Reset is idempotent (R161). -/
@[simp] theorem State.takeReset_takeReset (s : State) : s.takeReset.takeReset = s.takeReset := rfl

/-- Settles O50: the step leaves the reset values and the inputs that follow, and reset is idempotent. -/
theorem resetTakenBetweenSteps : Obligations.ResetTakenBetweenSteps := by
  intro s rest hin
  have hrest : s.dropInput.takeReset.inputs = rest := by
    rw [State.takeReset_inputs, State.dropInput_inputs, hin, List.tail_cons]
  have hagain : step (s.dropInput.takeReset.present .reset) = .next s.dropInput.takeReset := by
    rw [step_of_reset (State.present_inputs _ _), State.dropInput_present, State.takeReset_takeReset]
  exact ⟨s.dropInput.takeReset, step_of_reset hin, State.takeReset_crc _, State.takeReset_st _, State.takeReset_res _,
    State.takeReset_act _, State.takeReset_exp _, State.takeReset_grp _, hrest, hagain⟩

end Machine
end Sys2Proof
end
